-- ==== Sys2Proof/Word.lean ====
section
/-! DEFINITION. The word types of the machine (spec 00_scope.md R6, R9, R10, R11). Bit 0 is the
least significant bit; every data word, coefficient, product and accumulator is two's complement,
so `BitVec.toInt` is the spec's `sint` and `BitVec.toNat` its `uint`. -/

namespace Sys2Proof

/-- A DATA RAM word and the registers B, L, MD, BR, LR: 48 bits, format 25.23 (R6, R11). -/
abbrev Data := BitVec 48

/-- A COEF RAM word and the register MC: 28 bits, format 5.23 (R6, R11). -/
abbrev Coef := BitVec 28

/-- MR, ACC and the adder: 76 bits, format 30.46 (R6, R11). -/
abbrev Acc := BitVec 76

/-- One of DO1 to DO8: 32 bits (R6). -/
abbrev OutWord := BitVec 32

/-- A 10-bit word address, delay pointer number or label: the fields AD1, AD2, AD3 (R106). -/
abbrev Addr := BitVec 10

/-- One 54-bit instruction word (R100). -/
abbrev InsnBits := BitVec 54

/-- DLY_LATENCY: clocks from the DLYI write to a valid DLYO (R6; 90_conflicts.md C10). -/
def dlyLatency : Nat := 13

/-- The first instruction address that no branch can name: BRANCH_TARGET_MAX + 1 (R6). -/
def branchLimit : Nat := 1024

/-- PIPE_CLEAR: instruction words after a PC operation that must be all-NOP (R6). -/
def pipeClear : Nat := 3

end Sys2Proof
end

