-- ==== Sys2Proof/Config.lean ====
section
/-! DEFINITION. What the source leaves open (spec 00_scope.md R7). The parameters that are plain
data stand in `Config`, a field of `State`, so that every statement about all states is a statement
about all of their values; the functions and the values other agents supply are opaque constants
with no body: nothing can be proved about which value they give. -/

namespace Sys2Proof

/-- CLP32_LSB (R7, R185; 90_conflicts.md C22): the bit of the 48-bit result that becomes bit 0 of a
DO register, and the low edge of the CLP32 window. -/
inductive Clp32Window where
  /-- `CLP32_LSB = 0`: the reading of every CLP32 example of the source. -/
  | lsb0
  /-- `CLP32_LSB = 8`: the reading of the source's text on audio alignment. -/
  | lsb8
  deriving DecidableEq, Repr

/-- The number CLP32_LSB a window stands for. -/
def Clp32Window.lsb : Clp32Window → Nat
  | .lsb0 => 0
  | .lsb8 => 8

/-- Which functions LOG2_FN and ALOG2_FN are (R7, R136 to R139). -/
inductive LogModel where
  /-- What the source fixes, and free values elsewhere (R136, R137). -/
  | sourceOnly
  /-- The spec's own reconstruction (R138, R139). -/
  | reconstruction
  deriving DecidableEq, Repr

/-- The parameters of rule R7 that are plain data. A code that is `none` makes its operation not
encodable (93_implementation_defined.md U2). -/
structure Config where
  /-- DATA_WORDS: implemented DATA RAM words, at most 1024. -/
  dataWords : Nat
  /-- COEF_WORDS: implemented COEF RAM words, at most 1024. -/
  coefWords : Nat
  /-- IMEM_WORDS: instruction words. -/
  imemWords : Nat
  /-- PC_BITS: width of the PC. -/
  pcBits : Nat
  /-- CYCLES_PER_FRAME: DSP clocks between two frame restarts. -/
  cyclesPerFrame : Nat
  /-- CLP32_LSB. -/
  clp32 : Clp32Window
  /-- LOG2_FN and ALOG2_FN. -/
  logs : LogModel
  /-- SHL2_CODE (R111). -/
  shl2Code : BitVec 5
  /-- ALU2_CLRACC_CODE (R112). -/
  alu2ClraccCode : Option (BitVec 7)
  /-- ADD_ACC_ZERO_NONE_L_CODE (R118). -/
  addAccZeroNoneLCode : Option (BitVec 7)
  /-- ADD_ACC_ZERO_NONE_MD_CODE (R118). -/
  addAccZeroNoneMdCode : Option (BitVec 7)
  /-- PCADDR_MOP3_CODE (R113). -/
  pcaddrCode : BitVec 4
  /-- ST_VOL_MOP3_CODE (R114). -/
  stVolCode : Option (BitVec 4)
  deriving DecidableEq, Repr

/-- The ALU1 values that no printed code takes, SHL2_CODE's candidate 01011 among them (R101). -/
def alu1Unassigned (c : BitVec 5) : Bool := c == 0x0B#5 || decide (0x17#5 ≤ c)

/-- The 58 ALU2 values no printed code takes (R102). -/
def alu2Unassigned (c : BitVec 7) : Bool :=
  let n := c.toNat
  n == 0x06 || n == 0x0D || n == 0x0E || n == 0x16 || n == 0x1E || (0x21 ≤ n && n ≤ 0x27) ||
  (0x29 ≤ n && n ≤ 0x2C) || n == 0x30 || (0x3D ≤ n && n ≤ 0x4F) || (0x51 ≤ n && n ≤ 0x56) ||
  (0x64 ≤ n && n ≤ 0x67) || n == 0x69 || 0x75 ≤ n

/-- The seven MOP3 values no printed code takes (R105). -/
def mop3Unassigned (c : BitVec 4) : Bool := c == 5#4 || decide (10#4 ≤ c)

/-- An absent code, or one that `free` says is unassigned. -/
def codeFree {n : Nat} (free : BitVec n → Bool) : Option (BitVec n) → Bool
  | none => true
  | some c => free c

/-- Two codes that are both present differ. -/
def codesDiffer {n : Nat} (a b : Option (BitVec n)) : Bool := a.isNone || a != b

/-- The constraints rule R7 and rules R111 to R114, R118 put on the parameters: the RAM sizes are
at most 1024, the PC reaches the instruction memory, a frame has a clock, and every code parameter
is an unassigned value of its field (PCADDR's also 0000), no two of a field alike. -/
def Config.wf (c : Config) : Bool :=
  decide (c.dataWords ≤ 1024) && decide (c.coefWords ≤ 1024) &&
  decide (c.imemWords ≤ 2 ^ c.pcBits) && decide (0 < c.cyclesPerFrame) &&
  alu1Unassigned c.shl2Code &&
  codeFree alu2Unassigned c.alu2ClraccCode &&
  codeFree alu2Unassigned c.addAccZeroNoneLCode &&
  codeFree alu2Unassigned c.addAccZeroNoneMdCode &&
  codesDiffer c.alu2ClraccCode c.addAccZeroNoneLCode &&
  codesDiffer c.alu2ClraccCode c.addAccZeroNoneMdCode &&
  codesDiffer c.addAccZeroNoneLCode c.addAccZeroNoneMdCode &&
  (c.pcaddrCode == 0#4 || mop3Unassigned c.pcaddrCode) &&
  codeFree mop3Unassigned c.stVolCode &&
  codesDiffer (some c.pcaddrCode) c.stVolCode

/-- The parameters the reset state carries. DESIGN CHOICE (logs 5, 6, 7, 8): the largest sizes the
address fields and the host's bus allow, the source's one frame length, CLP32_LSB of the source's
examples, the codes the spec decides or names as candidates, an unassigned value for ALU2 CLRACC,
and only what the source fixes of LOG2 and ALOG2. -/
def Config.initial : Config where
  dataWords := 1024
  coefWords := 1024
  imemWords := 16384
  pcBits := 14
  cyclesPerFrame := 2816
  clp32 := .lsb0
  logs := .sourceOnly
  shl2Code := 0x0B#5
  alu2ClraccCode := some 0x75#7
  addAccZeroNoneLCode := some 0x51#7
  addAccZeroNoneMdCode := some 0x4F#7
  pcaddrCode := 0#4
  stVolCode := some 5#4

/-- The ESFRs the host can write (10_state.md R51, R53 to R55), by their hexadecimal addresses. -/
inductive EsfrName where
  | a6 | a7 | a9 | aa | ab | ac | b3 | b4 | b5 | b6 | b7 | b9 | ba | bb | bc | bd | be | bf | c1
  deriving DecidableEq, Repr

/-- The external special function registers that hold a value (10_state.md R51, R53, R54, R55).
The lanes of To_micro_i (R52) have no register. -/
structure Esfr where
  /-- A6 vol_mode_i_t. -/
  volMode : BitVec 2
  /-- A7 volume_index_i_t. -/
  volIndex : BitVec 3
  /-- A9, the first register of volume_data_i_t. -/
  volData0 : BitVec 8
  /-- AA, the second. -/
  volData1 : BitVec 8
  /-- AB, the third. -/
  volData2 : BitVec 8
  /-- AC, the fourth, four bits. -/
  volData3 : BitVec 4
  /-- B3, Data_to_DSP_o[7:0]. -/
  toDsp0 : BitVec 8
  /-- B4, Data_to_DSP_o[15:8]. -/
  toDsp1 : BitVec 8
  /-- B5, Data_to_DSP_o[23:16]. -/
  toDsp2 : BitVec 8
  /-- B6, Data_to_DSP_o[31:24]. -/
  toDsp3 : BitVec 8
  /-- B7, Data_to_DSP_o[39:32]. -/
  toDsp4 : BitVec 8
  /-- B9, Data_to_DSP_o[47:40]. -/
  toDsp5 : BitVec 8
  /-- BA, Data_to_DSP_o[53:48]. -/
  toDsp6 : BitVec 6
  /-- BB, micro_addr_o[7:0]. -/
  addrLo : BitVec 8
  /-- BC, micro_addr_o[13:8]. -/
  addrHi : BitVec 6
  /-- BD, Mode0_o. -/
  mode0 : Bool
  /-- BE, Mode3_o. -/
  mode3 : Bool
  /-- BF, Mode4_o. -/
  mode4 : Bool
  /-- C1, Mode5_o. -/
  mode5 : Bool
  deriving DecidableEq, Repr

/-- The ESFRs that go to the Volume Update Block, and nothing else of the host's (10_state.md R51,
60_exceptions.md R312). -/
structure VubRegs where
  /-- A6 vol_mode_i_t. -/
  mode : BitVec 2
  /-- A7 volume_index_i_t. -/
  index : BitVec 3
  /-- A9, AA and AB, the first three registers of volume_data_i_t. -/
  data0 : BitVec 8
  data1 : BitVec 8
  data2 : BitVec 8
  /-- AC, the fourth. -/
  data3 : BitVec 4
  deriving DecidableEq, Repr

/-- Every ESFR zero: "Reset low" where Table 1 says so (10_state.md R59), the rest DESIGN CHOICE
(log 3). -/
def Esfr.reset : Esfr where
  volMode := 0
  volIndex := 0
  volData0 := 0
  volData1 := 0
  volData2 := 0
  volData3 := 0
  toDsp0 := 0
  toDsp1 := 0
  toDsp2 := 0
  toDsp3 := 0
  toDsp4 := 0
  toDsp5 := 0
  toDsp6 := 0
  addrLo := 0
  addrHi := 0
  mode0 := false
  mode3 := false
  mode4 := false
  mode5 := false

/-! ### Free values: constants with no body -/

/-- LOG2_FN inside its stated input range, away from the fixed points: the nine result bits
LR[27:19] (R136(b); log 8). -/
opaque Config.log2Bits : Data → BitVec 9

/-- LOG2_FN of an input with L[47] = 1, where the source says nothing (R136; log 8). -/
opaque Config.log2Outside : Data → Data

/-- ALOG2_FN of an input in the 5.4 format: an unsigned number with five integer and 23 fraction
bits, wide enough for the stated range 0 to about 16 (R137(b); log 8). -/
opaque Config.alog2Bits : Data → BitVec 28

/-- ALOG2_FN of an input outside the 5.4 format (R137; log 8). -/
opaque Config.alog2Outside : Data → Data

/-- The word the input SAP delivers at a time for a channel 0..7 (R310; log 10). -/
opaque Config.diSample : Nat → Nat → Data

/-- The value the VUB presents next, from its registers, its previous value, the time and the index
0..23 (R313; log 11). -/
opaque Config.vubValue : VubRegs → Data → Nat → Nat → Data

/-- The word `ST(VOL,...)` stores for the offsets 24 to 31, which name no value (R272; log 11). -/
opaque Config.volUnnamed : Nat → Nat → Data

/-- LFSR_FN: the next LFSR word from the seed, the current word and the time (R319; log 12). -/
opaque Config.lfsrNext : Data → Data → Nat → Data

/-- What the delay memory gives back, from all it has taken (pointer, value; newest first) and the
time (R316; log 13). -/
opaque Config.delayOut : List (Addr × Data) → Nat → Data

/-- A 48-bit register after a frame restart, from which register it is, its value before and the
time (R303, R48; log 9). -/
opaque Config.restartData : Nat → Data → Nat → Data

/-- MC after a frame restart (R303, R48; log 9). -/
opaque Config.restartCoef : Coef → Nat → Coef

/-- MR (0) and ACC (1) after a frame restart (R303, R48; log 9). -/
opaque Config.restartAcc : Nat → Acc → Nat → Acc

/-- A_CP_B after a frame restart (R303, R48; log 9). -/
opaque Config.restartFlag : Bool → Nat → Bool

/-- What the unregistered bus To_micro_i carries at a time (10_state.md R52; log 28). -/
opaque Config.toMicro : Nat → BitVec 54

/-- The two bits above To_micro_i[53:48] in the lane D7, which no bit of the bus fills, at a time
(10_state.md R52; log 34). -/
opaque Config.toMicroSpare : Nat → BitVec 2

/-- What an ESFR narrower than eight bits reads as in the bits it does not hold, at a time
(10_state.md R51, R53 to R56; log 34). -/
opaque Config.esfrSpare : EsfrName → Nat → BitVec 8

end Sys2Proof
end

