-- ==== Sys2Proof/Syntax.lean ====
section
/-! DEFINITION. The operations of the five fields of an instruction word, one constructor per row
of spec/opcode_table.json, and the instruction word as the tuple of five operations
(00_scope.md R16(a), 30_encoding.md R100). An operand is a 10-bit word address, a delay pointer
number or a label; nothing else is a field (R106, R107). -/

namespace Sys2Proof

/-- The five operation fields of an instruction word (R100, Table 2). -/
inductive Slot where
  | alu1 | alu2 | mop1 | mop2 | mop3
  deriving DecidableEq, Repr

/-- One operation of one field: a row of the opcode table. -/
inductive Instr where
  /-- `NOP (ALU1)` (R131). -/
  | nopAlu1
  /-- `ABS(B)` (R132). -/
  | absB
  /-- `NEG(B)` (R134). -/
  | negB
  /-- `NEG(L)` (R135). -/
  | negL
  /-- `LOG2` (R136). -/
  | log2
  /-- `ALOG2` (R137). -/
  | alog2
  /-- `SHR(1)` (R140). -/
  | shr1
  /-- `SHR(2)` (R140). -/
  | shr2
  /-- `SHR(3)` (R140). -/
  | shr3
  /-- `SHR(4)` (R140). -/
  | shr4
  /-- `SHL(1)` (R141). -/
  | shl1
  /-- `SHL(2)` (R141). -/
  | shl2
  /-- `SHL(3)` (R141). -/
  | shl3
  /-- `SHL(4)` (R141). -/
  | shl4
  /-- `ABS(L)` (R133). -/
  | absL
  /-- `CLRACC (ALU1)` (R142). -/
  | clraccAlu1
  /-- `THRU(B)` (R143). -/
  | thruB
  /-- `THRU(L)` (R144). -/
  | thruL
  /-- `SHL(20)` (R141). -/
  | shl20
  /-- `JMP | NOP | NOP | NOP | PCADDR(label)` (R163). -/
  | jmp (target : Addr)
  /-- `BOC | NOP | NOP | NOP | PCADDR(label)` (R164). -/
  | boc (target : Addr)
  /-- `BNC | NOP | NOP | NOP | PCADDR(label)` (R165). -/
  | bnc (target : Addr)
  /-- `STOP | NOP | NOP | NOP | NOP (or PCADDR(label))` (R166). -/
  | stop
  /-- `NOP (ALU2)` (R189). -/
  | nopAlu2
  /-- `ADD(BR,MR,NONE,MD)` (R191). -/
  | addBrMrNoneMd
  /-- `ADD(BR,MR,NONE,B)` (R191). -/
  | addBrMrNoneB
  /-- `ADD(BR,MR,NONE,L)` (R191). -/
  | addBrMrNoneL
  /-- `ADD(BR,MR,NONE,MC)` (R191). -/
  | addBrMrNoneMc
  /-- `ADD(BR,MR,NONE,ACC)` (R191). -/
  | addBrMrNoneAcc
  /-- `ADD(BR,MR,NONE,DLYI)` (R191). -/
  | addBrMrNoneDlyi
  /-- `COMP(BR,MR)` (R211). -/
  | compBrMr
  /-- `ADD(BR,LR,NONE,MD)` (R193). -/
  | addBrLrNoneMd
  /-- `ADD(BR,LR,NONE,B)` (R193). -/
  | addBrLrNoneB
  /-- `ADD(BR,LR,NONE,L)` (R193). -/
  | addBrLrNoneL
  /-- `ADD(BR,LR,NONE,MC)` (R193). -/
  | addBrLrNoneMc
  /-- `ADD(BR,LR,NONE,DLYI)` (R193). -/
  | addBrLrNoneDlyi
  /-- `COMP(BR,LR)` (R212). -/
  | compBrLr
  /-- `ADD(ACC,MR,NONE,MD)` (R197). -/
  | addAccMrNoneMd
  /-- `ADD(ACC,MR,NONE,B)` (R197). -/
  | addAccMrNoneB
  /-- `ADD(ACC,MR,NONE,L)` (R197). -/
  | addAccMrNoneL
  /-- `ADD(ACC,MR,NONE,MC)` (R197). -/
  | addAccMrNoneMc
  /-- `ADD(ACC,MR,NONE,ACC)` (R197). -/
  | addAccMrNoneAcc
  /-- `ADD(ACC,MR,NONE,DLYI)` (R197). -/
  | addAccMrNoneDlyi
  /-- `COMP(ACC,MR)` (R213). -/
  | compAccMr
  /-- `ADD(ACC,LR,NONE,MD)` (R199). -/
  | addAccLrNoneMd
  /-- `ADD(ACC,LR,NONE,B)` (R199). -/
  | addAccLrNoneB
  /-- `ADD(ACC,LR,NONE,L)` (R199). -/
  | addAccLrNoneL
  /-- `ADD(ACC,LR,NONE,MC)` (R199). -/
  | addAccLrNoneMc
  /-- `ADD(ACC,LR,NONE,ACC)` (R199). -/
  | addAccLrNoneAcc
  /-- `ADD(ACC,LR,NONE,DLYI)` (R199). -/
  | addAccLrNoneDlyi
  /-- `COMP(ACC,LR)` (R214). -/
  | compAccLr
  /-- `ADD(BR,MR,CLP32,DO4)` (R192). -/
  | addBrMrClp32Do4
  /-- `ADD(BR,MR,CLP32,DO1)` (R192). -/
  | addBrMrClp32Do1
  /-- `ADD(BR,MR,CLP32,DO2)` (R192). -/
  | addBrMrClp32Do2
  /-- `ADD(BR,MR,CLP32,DO3)` (R192). -/
  | addBrMrClp32Do3
  /-- `ADD(BR,LR,CLP32,DO1)` (R194). -/
  | addBrLrClp32Do1
  /-- `ADD(BR,LR,CLP32,DO2)` (R194). -/
  | addBrLrClp32Do2
  /-- `ADD(BR,LR,CLP32,DO3)` (R194). -/
  | addBrLrClp32Do3
  /-- `ADD(BR,LR,CLP32,DO4)` (R194). -/
  | addBrLrClp32Do4
  /-- `ADD(ACC,MR,CLP32,DO1)` (R198). -/
  | addAccMrClp32Do1
  /-- `ADD(ACC,MR,CLP32,DO2)` (R198). -/
  | addAccMrClp32Do2
  /-- `ADD(ACC,MR,CLP32,DO3)` (R198). -/
  | addAccMrClp32Do3
  /-- `ADD(ACC,MR,CLP32,DO4)` (R198). -/
  | addAccMrClp32Do4
  /-- `ADD(ACC,LR,CLP32,DO1)` (R200). -/
  | addAccLrClp32Do1
  /-- `ADD(ACC,LR,CLP32,DO2)` (R200). -/
  | addAccLrClp32Do2
  /-- `ADD(ACC,LR,CLP32,DO3)` (R200). -/
  | addAccLrClp32Do3
  /-- `ADD(ACC,LR,CLP32,DO4)` (R200). -/
  | addAccLrClp32Do4
  /-- `ADD(ACC,ZERO,NONE,B)` (R201). -/
  | addAccZeroNoneB
  /-- `ADD(BR,ZERO,NONE,MD)` (R195). -/
  | addBrZeroNoneMd
  /-- `ADD(BR,ZERO,NONE,B)` (R195). -/
  | addBrZeroNoneB
  /-- `ADD(BR,ZERO,NONE,L)` (R195). -/
  | addBrZeroNoneL
  /-- `ADD(BR,ZERO,NONE,MC)` (R195). -/
  | addBrZeroNoneMc
  /-- `ADD(BR,ZERO,CLP32,B)` (R196). -/
  | addBrZeroClp32B
  /-- `ADD(BR,MR,CLP32,DO6)` (R192). -/
  | addBrMrClp32Do6
  /-- `ADD(BR,MR,CLP32,DO7)` (R192). -/
  | addBrMrClp32Do7
  /-- `ADD(BR,LR,CLP32,DO6)` (R194). -/
  | addBrLrClp32Do6
  /-- `ADD(BR,LR,CLP32,DO7)` (R194). -/
  | addBrLrClp32Do7
  /-- `ADD(ACC,MR,CLP32,DO6)` (R198). -/
  | addAccMrClp32Do6
  /-- `ADD(ACC,MR,CLP32,DO7)` (R198). -/
  | addAccMrClp32Do7
  /-- `ADD(ACC,LR,CLP32,DO6)` (R200). -/
  | addAccLrClp32Do6
  /-- `ADD(ACC,LR,CLP32,DO7)` (R200). -/
  | addAccLrClp32Do7
  /-- `ADD(ACC,ZERO,CLP28,MC)` (R202). -/
  | addAccZeroClp28Mc
  /-- `ADD(ACC,ZERO,CLP28,B)` (R202). -/
  | addAccZeroClp28B
  /-- `ADD(ACC,ZERO,CLP28,L)` (R202). -/
  | addAccZeroClp28L
  /-- `ADD(BR,MR,CLP32,DO5)` (R192). -/
  | addBrMrClp32Do5
  /-- `ADD(BR,LR,CLP32,DO5)` (R194). -/
  | addBrLrClp32Do5
  /-- `ADD(ACC,MR,CLP32,DO5)` (R198). -/
  | addAccMrClp32Do5
  /-- `ADD(ACC,LR,CLP32,DO5)` (R200). -/
  | addAccLrClp32Do5
  /-- `ADD(BR,MR,CLP32,DO8)` (R192). -/
  | addBrMrClp32Do8
  /-- `ADD(BR,LR,CLP32,DO8)` (R194). -/
  | addBrLrClp32Do8
  /-- `ADD(ACC,MR,CLP32,DO8)` (R198). -/
  | addAccMrClp32Do8
  /-- `ADD(ACC,LR,CLP32,DO8)` (R200). -/
  | addAccLrClp32Do8
  /-- `ADD(ACC,MR,NONE,MDB)` (R197). -/
  | addAccMrNoneMdb
  /-- `CLRACC (ALU2)` (R190). -/
  | clraccAlu2
  /-- `ADD(ACC,ZERO,NONE,L)` (R203). -/
  | addAccZeroNoneL
  /-- `ADD(ACC,ZERO,NONE,MD)` (R203). -/
  | addAccZeroNoneMd
  /-- `NOP (MOP1)` (R231). -/
  | nopMop1
  /-- `LD(D_addr,MD)` (R236). -/
  | ldDataMd (a : Addr)
  /-- `LD(D_addr,B)` (R232). -/
  | ldDataB (a : Addr)
  /-- `LD(D_addr,L)` (R233). -/
  | ldDataL (a : Addr)
  /-- `LDC(D_addr,B)` (R239). -/
  | ldcDataB (a : Addr)
  /-- `LDC(D_addr,L)` (R240). -/
  | ldcDataL (a : Addr)
  /-- `LNC(D_addr,MD)` (R244). -/
  | lncDataMd (a : Addr)
  /-- `LNC(D_addr,B)` (R242). -/
  | lncDataB (a : Addr)
  /-- `LNC(D_addr,L)` (R243). -/
  | lncDataL (a : Addr)
  /-- `LDC(D_addr,MD)` (R241). -/
  | ldcDataMd (a : Addr)
  /-- `LD(D_addr,BL)` (R234). -/
  | ldDataBl (a : Addr)
  /-- `LD(D_addr,MC)` (R235). -/
  | ldDataMc (a : Addr)
  /-- `NOP (MOP2)` (R251). -/
  | nopMop2
  /-- `LD(C_addr,MC)` (R252). -/
  | ldCoefMc (a : Addr)
  /-- `LDC(C_addr,MC)` (R254). -/
  | ldcCoefMc (a : Addr)
  /-- `LD(C_addr,L)` (R253). -/
  | ldCoefL (a : Addr)
  /-- `LNC(C_addr,MC)` (R255). -/
  | lncCoefMc (a : Addr)
  /-- `NOP (MOP3)` (R266). -/
  | nopMop3
  /-- `DLYPTR(ptr)` (R280). -/
  | dlyptr (ptr : Addr)
  /-- `PCADDR(label)` (R276). -/
  | pcaddr (label : Addr)
  /-- `ST(MD,DATA,D_addr)` (R267). -/
  | stMdData (a : Addr)
  /-- `ST(B,DATA,D_addr)` (R268). -/
  | stBData (a : Addr)
  /-- `ST(L,DATA,D_addr)` (R269). -/
  | stLData (a : Addr)
  /-- `ST(DLYO,DATA,D_addr)` (R271). -/
  | stDlyoData (a : Addr)
  /-- `ST(DI,DATA,D_addr)` (R270). -/
  | stDiData (a : Addr)
  /-- `ST(MD,COEF,C_addr)` (R274). -/
  | stMdCoef (a : Addr)
  /-- `ST(B,COEF,C_addr)` (R273). -/
  | stBCoef (a : Addr)
  /-- `ST(L,COEF,C_addr)` (R275). -/
  | stLCoef (a : Addr)
  /-- `ST(VOL,DATA,D_addr)` (R272). -/
  | stVolData (a : Addr)
  deriving DecidableEq, Repr

/-- The field an operation belongs to: the `field` column of the opcode table. -/
def Instr.slot : Instr → Slot
  | .nopAlu1 => .alu1
  | .absB => .alu1
  | .negB => .alu1
  | .negL => .alu1
  | .log2 => .alu1
  | .alog2 => .alu1
  | .shr1 => .alu1
  | .shr2 => .alu1
  | .shr3 => .alu1
  | .shr4 => .alu1
  | .shl1 => .alu1
  | .shl2 => .alu1
  | .shl3 => .alu1
  | .shl4 => .alu1
  | .absL => .alu1
  | .clraccAlu1 => .alu1
  | .thruB => .alu1
  | .thruL => .alu1
  | .shl20 => .alu1
  | .jmp _ => .alu1
  | .boc _ => .alu1
  | .bnc _ => .alu1
  | .stop => .alu1
  | .nopAlu2 => .alu2
  | .addBrMrNoneMd => .alu2
  | .addBrMrNoneB => .alu2
  | .addBrMrNoneL => .alu2
  | .addBrMrNoneMc => .alu2
  | .addBrMrNoneAcc => .alu2
  | .addBrMrNoneDlyi => .alu2
  | .compBrMr => .alu2
  | .addBrLrNoneMd => .alu2
  | .addBrLrNoneB => .alu2
  | .addBrLrNoneL => .alu2
  | .addBrLrNoneMc => .alu2
  | .addBrLrNoneDlyi => .alu2
  | .compBrLr => .alu2
  | .addAccMrNoneMd => .alu2
  | .addAccMrNoneB => .alu2
  | .addAccMrNoneL => .alu2
  | .addAccMrNoneMc => .alu2
  | .addAccMrNoneAcc => .alu2
  | .addAccMrNoneDlyi => .alu2
  | .compAccMr => .alu2
  | .addAccLrNoneMd => .alu2
  | .addAccLrNoneB => .alu2
  | .addAccLrNoneL => .alu2
  | .addAccLrNoneMc => .alu2
  | .addAccLrNoneAcc => .alu2
  | .addAccLrNoneDlyi => .alu2
  | .compAccLr => .alu2
  | .addBrMrClp32Do4 => .alu2
  | .addBrMrClp32Do1 => .alu2
  | .addBrMrClp32Do2 => .alu2
  | .addBrMrClp32Do3 => .alu2
  | .addBrLrClp32Do1 => .alu2
  | .addBrLrClp32Do2 => .alu2
  | .addBrLrClp32Do3 => .alu2
  | .addBrLrClp32Do4 => .alu2
  | .addAccMrClp32Do1 => .alu2
  | .addAccMrClp32Do2 => .alu2
  | .addAccMrClp32Do3 => .alu2
  | .addAccMrClp32Do4 => .alu2
  | .addAccLrClp32Do1 => .alu2
  | .addAccLrClp32Do2 => .alu2
  | .addAccLrClp32Do3 => .alu2
  | .addAccLrClp32Do4 => .alu2
  | .addAccZeroNoneB => .alu2
  | .addBrZeroNoneMd => .alu2
  | .addBrZeroNoneB => .alu2
  | .addBrZeroNoneL => .alu2
  | .addBrZeroNoneMc => .alu2
  | .addBrZeroClp32B => .alu2
  | .addBrMrClp32Do6 => .alu2
  | .addBrMrClp32Do7 => .alu2
  | .addBrLrClp32Do6 => .alu2
  | .addBrLrClp32Do7 => .alu2
  | .addAccMrClp32Do6 => .alu2
  | .addAccMrClp32Do7 => .alu2
  | .addAccLrClp32Do6 => .alu2
  | .addAccLrClp32Do7 => .alu2
  | .addAccZeroClp28Mc => .alu2
  | .addAccZeroClp28B => .alu2
  | .addAccZeroClp28L => .alu2
  | .addBrMrClp32Do5 => .alu2
  | .addBrLrClp32Do5 => .alu2
  | .addAccMrClp32Do5 => .alu2
  | .addAccLrClp32Do5 => .alu2
  | .addBrMrClp32Do8 => .alu2
  | .addBrLrClp32Do8 => .alu2
  | .addAccMrClp32Do8 => .alu2
  | .addAccLrClp32Do8 => .alu2
  | .addAccMrNoneMdb => .alu2
  | .clraccAlu2 => .alu2
  | .addAccZeroNoneL => .alu2
  | .addAccZeroNoneMd => .alu2
  | .nopMop1 => .mop1
  | .ldDataMd _ => .mop1
  | .ldDataB _ => .mop1
  | .ldDataL _ => .mop1
  | .ldcDataB _ => .mop1
  | .ldcDataL _ => .mop1
  | .lncDataMd _ => .mop1
  | .lncDataB _ => .mop1
  | .lncDataL _ => .mop1
  | .ldcDataMd _ => .mop1
  | .ldDataBl _ => .mop1
  | .ldDataMc _ => .mop1
  | .nopMop2 => .mop2
  | .ldCoefMc _ => .mop2
  | .ldcCoefMc _ => .mop2
  | .ldCoefL _ => .mop2
  | .lncCoefMc _ => .mop2
  | .nopMop3 => .mop3
  | .dlyptr _ => .mop3
  | .pcaddr _ => .mop3
  | .stMdData _ => .mop3
  | .stBData _ => .mop3
  | .stLData _ => .mop3
  | .stDlyoData _ => .mop3
  | .stDiData _ => .mop3
  | .stMdCoef _ => .mop3
  | .stBCoef _ => .mop3
  | .stLCoef _ => .mop3
  | .stVolData _ => .mop3

/-- An instruction word at the slot level: five operations that execute in one clock (R16(a),
R100). -/
structure InsnWord where
  /-- ALU 1st stage or PC operation. -/
  alu1 : Instr
  /-- ALU 2nd stage. -/
  alu2 : Instr
  /-- DATA memory load. -/
  mop1 : Instr
  /-- COEF memory load. -/
  mop2 : Instr
  /-- Memory store, PCADDR or DLYPTR. -/
  mop3 : Instr
  deriving DecidableEq, Repr

/-- The all-NOP instruction word (R109). -/
def InsnWord.nops : InsnWord := ⟨.nopAlu1, .nopAlu2, .nopMop1, .nopMop2, .nopMop3⟩

end Sys2Proof
end

