-- ==== Sys2Proof/Machine/WordCheck.lean ====
section
/-! DEFINITION. What a word's operations are, as far as the rules that look at a whole word ask
(41_pc_operations.md R161, 43_mop1.md R238, 45_mop3.md R283, 30_encoding.md R113). -/

namespace Sys2Proof.Machine

/-- JMP, BOC, BNC or STOP (R160; glossary R15 "PC operation"). -/
def isPcOp : Instr → Bool
  | .jmp _ | .boc _ | .bnc _ | .stop => true
  | _ => false

/-- An ADD with destination DLYI: the ALU2 codes 000 0111, 000 1111, 001 0111, 001 1111 (R283). -/
def writesDlyi : Instr → Bool
  | .addBrMrNoneDlyi | .addBrLrNoneDlyi | .addAccMrNoneDlyi | .addAccLrNoneDlyi => true
  | _ => false

/-- `PCADDR(label)` (R276). -/
def isPcaddr : Instr → Bool
  | .pcaddr _ => true
  | _ => false

/-- `DLYPTR(ptr)` (R280). -/
def isDlyptr : Instr → Bool
  | .dlyptr _ => true
  | _ => false

/-- The word as it acts: a DLYPTR in a word that does not write DLYI is treated as NOP (R280). -/
def acting (w : InsnWord) : InsnWord :=
  if isDlyptr w.mop3 && !writesDlyi w.alu2 then { w with mop3 := .nopMop3 } else w

/-- The MOP3 operation a PC operation needs: PCADDR of its target for JMP, BOC, BNC; NOP or PCADDR
for STOP (R161(b), R161(c)). True of an ALU1 operation that is no PC operation. -/
def pcOperandOk (alu1 mop3 : Instr) : Bool :=
  match alu1 with
  | .jmp target | .boc target | .bnc target => mop3 == .pcaddr target
  | .stop => mop3 == .nopMop3 || isPcaddr mop3
  | _ => true

/-- R161(a) to (d): a PC operation beside a non-NOP ALU2, MOP1 or MOP2, or without the MOP3
operation it needs; or a PCADDR without a PC operation. A DLYPTR here is a NOP (R280). -/
def pcFormBad (w : InsnWord) : Bool :=
  if isPcOp w.alu1 then
    w.alu2 != .nopAlu2 || w.mop1 != .nopMop1 || w.mop2 != .nopMop2 ||
      !pcOperandOk w.alu1 (acting w).mop3
  else isPcaddr w.mop3

/-- R238: MOP1 writes MC from DATA memory while MOP2 writes L from COEF memory. -/
def busConflict (w : InsnWord) : Bool :=
  match w.mop1, w.mop2 with
  | .ldDataMc _, .ldCoefL _ => true
  | _, _ => false

/-- R283: ALU2 writes DLYI and MOP3 is not DLYPTR. -/
def delayPointerMissing (w : InsnWord) : Bool := writesDlyi w.alu2 && !isDlyptr w.mop3

end Sys2Proof.Machine
end

