-- ==== Sys2Proof/WellFormed.lean ====
section
/-! DEFINITION. Which instruction words the spec allows at the slot level: every operation in its
own field (30_encoding.md R100), and none of the combinations that rules R161(a) to (d), R238 and
R283 forbid whatever the state is. The checks that need the state (the pipe of R162, the branch
target of R161(e), the hazards of R82 and R83, the write conflicts of R47) are the machine's. -/

namespace Sys2Proof

open Sys2Proof.Machine

/-- Every operation stands in its own field (R100). -/
def InsnWord.slotsOk (w : InsnWord) : Bool :=
  w.alu1.slot == .alu1 && w.alu2.slot == .alu2 && w.mop1.slot == .mop1 && w.mop2.slot == .mop2 &&
  w.mop3.slot == .mop3

/-- The words the spec allows whatever the state is. -/
def InsnWord.wellFormed (w : InsnWord) : Bool :=
  w.slotsOk && !pcFormBad w && !busConflict w && !delayPointerMissing w

end Sys2Proof
end

