-- ==== Sys2Proof/Decode.lean ====
section
/-! DEFINITION. Decoding a 54-bit instruction word into its five operations (30_encoding.md R100 to
R118), total, refusing an unassigned code by field and value; and after it the encoder, written from
the same tables. The open codes of rules R111 to R114 and R118 are parameters of `Config`. -/

namespace Sys2Proof

open Sys2Proof.Machine

/-- ALU1, bits 53 to 49, all 32 values (R101). `ad3` is the label of a PC operation (R106). -/
def decodeAlu1 (cfg : Config) (code : BitVec 5) (ad3 : Addr) : Option Instr :=
  match code with
  | 0x00#5 => some .nopAlu1
  | 0x01#5 => some .absB
  | 0x02#5 => some .negB
  | 0x03#5 => some .negL
  | 0x04#5 => some .log2
  | 0x05#5 => some .alog2
  | 0x06#5 => some .shr1
  | 0x07#5 => some .shr2
  | 0x08#5 => some .shr3
  | 0x09#5 => some .shr4
  | 0x0A#5 => some .shl1
  | 0x0C#5 => some .shl3
  | 0x0D#5 => some .shl4
  | 0x0E#5 => some .absL
  | 0x0F#5 => some .clraccAlu1
  | 0x10#5 => some .thruB
  | 0x11#5 => some .thruL
  | 0x12#5 => some (.jmp ad3)
  | 0x13#5 => some (.boc ad3)
  | 0x14#5 => some (.bnc ad3)
  | 0x15#5 => some .stop
  | 0x16#5 => some .shl20
  | _ => if code = cfg.shl2Code then some .shl2 else none

/-- ALU2, bits 48 to 42: the 70 printed codes, then the three open ones (R102, R112, R118). -/
def decodeAlu2 (cfg : Config) (code : BitVec 7) : Option Instr :=
  match code with
  | 0x00#7 => some .nopAlu2
  | 0x01#7 => some .addBrMrNoneMd
  | 0x02#7 => some .addBrMrNoneB
  | 0x03#7 => some .addBrMrNoneL
  | 0x04#7 => some .addBrMrNoneMc
  | 0x05#7 => some .addBrMrNoneAcc
  | 0x07#7 => some .addBrMrNoneDlyi
  | 0x08#7 => some .compBrMr
  | 0x09#7 => some .addBrLrNoneMd
  | 0x0A#7 => some .addBrLrNoneB
  | 0x0B#7 => some .addBrLrNoneL
  | 0x0C#7 => some .addBrLrNoneMc
  | 0x0F#7 => some .addBrLrNoneDlyi
  | 0x10#7 => some .compBrLr
  | 0x11#7 => some .addAccMrNoneMd
  | 0x12#7 => some .addAccMrNoneB
  | 0x13#7 => some .addAccMrNoneL
  | 0x14#7 => some .addAccMrNoneMc
  | 0x15#7 => some .addAccMrNoneAcc
  | 0x17#7 => some .addAccMrNoneDlyi
  | 0x18#7 => some .compAccMr
  | 0x19#7 => some .addAccLrNoneMd
  | 0x1A#7 => some .addAccLrNoneB
  | 0x1B#7 => some .addAccLrNoneL
  | 0x1C#7 => some .addAccLrNoneMc
  | 0x1D#7 => some .addAccLrNoneAcc
  | 0x1F#7 => some .addAccLrNoneDlyi
  | 0x20#7 => some .compAccLr
  | 0x28#7 => some .addBrMrClp32Do4
  | 0x2D#7 => some .addBrMrClp32Do1
  | 0x2E#7 => some .addBrMrClp32Do2
  | 0x2F#7 => some .addBrMrClp32Do3
  | 0x31#7 => some .addBrLrClp32Do1
  | 0x32#7 => some .addBrLrClp32Do2
  | 0x33#7 => some .addBrLrClp32Do3
  | 0x34#7 => some .addBrLrClp32Do4
  | 0x35#7 => some .addAccMrClp32Do1
  | 0x36#7 => some .addAccMrClp32Do2
  | 0x37#7 => some .addAccMrClp32Do3
  | 0x38#7 => some .addAccMrClp32Do4
  | 0x39#7 => some .addAccLrClp32Do1
  | 0x3A#7 => some .addAccLrClp32Do2
  | 0x3B#7 => some .addAccLrClp32Do3
  | 0x3C#7 => some .addAccLrClp32Do4
  | 0x50#7 => some .addAccZeroNoneB
  | 0x57#7 => some .addBrZeroNoneMd
  | 0x58#7 => some .addBrZeroNoneB
  | 0x59#7 => some .addBrZeroNoneL
  | 0x5A#7 => some .addBrZeroNoneMc
  | 0x5B#7 => some .addBrZeroClp32B
  | 0x5C#7 => some .addBrMrClp32Do6
  | 0x5D#7 => some .addBrMrClp32Do7
  | 0x5E#7 => some .addBrLrClp32Do6
  | 0x5F#7 => some .addBrLrClp32Do7
  | 0x60#7 => some .addAccMrClp32Do6
  | 0x61#7 => some .addAccMrClp32Do7
  | 0x62#7 => some .addAccLrClp32Do6
  | 0x63#7 => some .addAccLrClp32Do7
  | 0x68#7 => some .addAccZeroClp28Mc
  | 0x6A#7 => some .addAccZeroClp28B
  | 0x6B#7 => some .addAccZeroClp28L
  | 0x6C#7 => some .addBrMrClp32Do5
  | 0x6D#7 => some .addBrLrClp32Do5
  | 0x6E#7 => some .addAccMrClp32Do5
  | 0x6F#7 => some .addAccLrClp32Do5
  | 0x70#7 => some .addBrMrClp32Do8
  | 0x71#7 => some .addBrLrClp32Do8
  | 0x72#7 => some .addAccMrClp32Do8
  | 0x73#7 => some .addAccLrClp32Do8
  | 0x74#7 => some .addAccMrNoneMdb
  | _ =>
    if some code = cfg.alu2ClraccCode then some .clraccAlu2
    else if some code = cfg.addAccZeroNoneLCode then some .addAccZeroNoneL
    else if some code = cfg.addAccZeroNoneMdCode then some .addAccZeroNoneMd
    else none

/-- MOP1, bits 41 to 37, with its address AD1 (R103, R106). -/
def decodeMop1 (code : BitVec 5) (ad1 : Addr) : Option Instr :=
  match code with
  | 0x00#5 => some .nopMop1
  | 0x01#5 => some (.ldDataMd ad1)
  | 0x02#5 => some (.ldDataB ad1)
  | 0x03#5 => some (.ldDataL ad1)
  | 0x05#5 => some (.ldcDataB ad1)
  | 0x06#5 => some (.ldcDataL ad1)
  | 0x07#5 => some (.lncDataMd ad1)
  | 0x08#5 => some (.lncDataB ad1)
  | 0x09#5 => some (.lncDataL ad1)
  | 0x14#5 => some (.ldcDataMd ad1)
  | 0x1C#5 => some (.ldDataBl ad1)
  | 0x1F#5 => some (.ldDataMc ad1)
  | _ => none

/-- MOP2, bits 26 to 24, with its address AD2 (R104, R106). -/
def decodeMop2 (code : BitVec 3) (ad2 : Addr) : Option Instr :=
  match code with
  | 0x00#3 => some .nopMop2
  | 0x01#3 => some (.ldCoefMc ad2)
  | 0x02#3 => some (.ldcCoefMc ad2)
  | 0x06#3 => some (.ldCoefL ad2)
  | 0x07#3 => some (.lncCoefMc ad2)
  | _ => none

/-- MOP3, bits 13 to 10, with AD3 (R105, R106). Code 0000 is resolved from the rest of the word:
PCADDR beside a PC operation when PCADDR_MOP3_CODE is 0000, else DLYPTR beside a DLYI write, else
NOP (R113). ST(VOL,...) and a non-zero PCADDR_MOP3_CODE are parameters (R113, R114). -/
def decodeMop3 (cfg : Config) (alu1 alu2 : Instr) (code : BitVec 4) (ad3 : Addr) : Option Instr :=
  match code with
  | 0x0#4 =>
    if isPcOp alu1 && cfg.pcaddrCode == 0#4 then some (.pcaddr ad3)
    else if writesDlyi alu2 then some (.dlyptr ad3)
    else some .nopMop3
  | 0x1#4 => some (.stMdData ad3)
  | 0x2#4 => some (.stBData ad3)
  | 0x3#4 => some (.stLData ad3)
  | 0x4#4 => some (.stDlyoData ad3)
  | 0x6#4 => some (.stDiData ad3)
  | 0x7#4 => some (.stMdCoef ad3)
  | 0x8#4 => some (.stBCoef ad3)
  | 0x9#4 => some (.stLCoef ad3)
  | _ =>
    if code = cfg.pcaddrCode then some (.pcaddr ad3)
    else if some code = cfg.stVolCode then some (.stVolData ad3)
    else none

/-- The eight fields of a word (R100, Table 2). -/
structure Fields where
  alu1 : BitVec 5
  alu2 : BitVec 7
  mop1 : BitVec 5
  ad1 : Addr
  mop2 : BitVec 3
  ad2 : Addr
  mop3 : BitVec 4
  ad3 : Addr
  deriving DecidableEq, Repr

/-- Cuts a word into its fields: `w[53:49]`, `w[48:42]`, `w[41:37]`, `w[36:27]`, `w[26:24]`,
`w[23:14]`, `w[13:10]`, `w[9:0]` (R100, R110). -/
def fieldsOf (w : InsnBits) : Fields where
  alu1 := w.extractLsb' 49 5
  alu2 := w.extractLsb' 42 7
  mop1 := w.extractLsb' 37 5
  ad1 := w.extractLsb' 27 10
  mop2 := w.extractLsb' 24 3
  ad2 := w.extractLsb' 14 10
  mop3 := w.extractLsb' 10 4
  ad3 := w.extractLsb' 0 10

/-- `ALU1<<49 | ALU2<<42 | MOP1<<37 | AD1<<27 | MOP2<<24 | AD2<<14 | MOP3<<10 | AD3` (R100). -/
def packFields (f : Fields) : InsnBits :=
  f.alu1 ++ f.alu2 ++ f.mop1 ++ f.ad1 ++ f.mop2 ++ f.ad2 ++ f.mop3 ++ f.ad3

/-- The decode procedure (R110): the word's five operations, or the first field in field order whose
code is unassigned, with that code (R115, R306(3)). -/
def decodeFields (cfg : Config) (f : Fields) : Except (Slot × Nat) InsnWord :=
  match decodeAlu1 cfg f.alu1 f.ad3 with
  | none => .error (.alu1, f.alu1.toNat)
  | some alu1 =>
    match decodeAlu2 cfg f.alu2 with
    | none => .error (.alu2, f.alu2.toNat)
    | some alu2 =>
      match decodeMop1 f.mop1 f.ad1 with
      | none => .error (.mop1, f.mop1.toNat)
      | some mop1 =>
        match decodeMop2 f.mop2 f.ad2 with
        | none => .error (.mop2, f.mop2.toNat)
        | some mop2 =>
          match decodeMop3 cfg alu1 alu2 f.mop3 f.ad3 with
          | none => .error (.mop3, f.mop3.toNat)
          | some mop3 => .ok ⟨alu1, alu2, mop1, mop2, mop3⟩

/-- Decoding of a 54-bit word. -/
def decode (cfg : Config) (w : InsnBits) : Except (Slot × Nat) InsnWord :=
  decodeFields cfg (fieldsOf w)

/-! ### The encoder -/

/-- The ALU1 code of an operation, `none` for an operation of another field (R101, R111). -/
def alu1Code (cfg : Config) : Instr → Option (BitVec 5)
  | .nopAlu1 => some 0x00#5
  | .absB => some 0x01#5
  | .negB => some 0x02#5
  | .negL => some 0x03#5
  | .log2 => some 0x04#5
  | .alog2 => some 0x05#5
  | .shr1 => some 0x06#5
  | .shr2 => some 0x07#5
  | .shr3 => some 0x08#5
  | .shr4 => some 0x09#5
  | .shl1 => some 0x0A#5
  | .shl2 => some cfg.shl2Code
  | .shl3 => some 0x0C#5
  | .shl4 => some 0x0D#5
  | .absL => some 0x0E#5
  | .clraccAlu1 => some 0x0F#5
  | .thruB => some 0x10#5
  | .thruL => some 0x11#5
  | .shl20 => some 0x16#5
  | .jmp _ => some 0x12#5
  | .boc _ => some 0x13#5
  | .bnc _ => some 0x14#5
  | .stop => some 0x15#5
  | _ => none

/-- The ALU2 code of an operation; an open code may be absent (R102, R112, R118). -/
def alu2Code (cfg : Config) : Instr → Option (BitVec 7)
  | .nopAlu2 => some 0x00#7
  | .addBrMrNoneMd => some 0x01#7
  | .addBrMrNoneB => some 0x02#7
  | .addBrMrNoneL => some 0x03#7
  | .addBrMrNoneMc => some 0x04#7
  | .addBrMrNoneAcc => some 0x05#7
  | .addBrMrNoneDlyi => some 0x07#7
  | .compBrMr => some 0x08#7
  | .addBrLrNoneMd => some 0x09#7
  | .addBrLrNoneB => some 0x0A#7
  | .addBrLrNoneL => some 0x0B#7
  | .addBrLrNoneMc => some 0x0C#7
  | .addBrLrNoneDlyi => some 0x0F#7
  | .compBrLr => some 0x10#7
  | .addAccMrNoneMd => some 0x11#7
  | .addAccMrNoneB => some 0x12#7
  | .addAccMrNoneL => some 0x13#7
  | .addAccMrNoneMc => some 0x14#7
  | .addAccMrNoneAcc => some 0x15#7
  | .addAccMrNoneDlyi => some 0x17#7
  | .compAccMr => some 0x18#7
  | .addAccLrNoneMd => some 0x19#7
  | .addAccLrNoneB => some 0x1A#7
  | .addAccLrNoneL => some 0x1B#7
  | .addAccLrNoneMc => some 0x1C#7
  | .addAccLrNoneAcc => some 0x1D#7
  | .addAccLrNoneDlyi => some 0x1F#7
  | .compAccLr => some 0x20#7
  | .addBrMrClp32Do4 => some 0x28#7
  | .addBrMrClp32Do1 => some 0x2D#7
  | .addBrMrClp32Do2 => some 0x2E#7
  | .addBrMrClp32Do3 => some 0x2F#7
  | .addBrLrClp32Do1 => some 0x31#7
  | .addBrLrClp32Do2 => some 0x32#7
  | .addBrLrClp32Do3 => some 0x33#7
  | .addBrLrClp32Do4 => some 0x34#7
  | .addAccMrClp32Do1 => some 0x35#7
  | .addAccMrClp32Do2 => some 0x36#7
  | .addAccMrClp32Do3 => some 0x37#7
  | .addAccMrClp32Do4 => some 0x38#7
  | .addAccLrClp32Do1 => some 0x39#7
  | .addAccLrClp32Do2 => some 0x3A#7
  | .addAccLrClp32Do3 => some 0x3B#7
  | .addAccLrClp32Do4 => some 0x3C#7
  | .addAccZeroNoneB => some 0x50#7
  | .addBrZeroNoneMd => some 0x57#7
  | .addBrZeroNoneB => some 0x58#7
  | .addBrZeroNoneL => some 0x59#7
  | .addBrZeroNoneMc => some 0x5A#7
  | .addBrZeroClp32B => some 0x5B#7
  | .addBrMrClp32Do6 => some 0x5C#7
  | .addBrMrClp32Do7 => some 0x5D#7
  | .addBrLrClp32Do6 => some 0x5E#7
  | .addBrLrClp32Do7 => some 0x5F#7
  | .addAccMrClp32Do6 => some 0x60#7
  | .addAccMrClp32Do7 => some 0x61#7
  | .addAccLrClp32Do6 => some 0x62#7
  | .addAccLrClp32Do7 => some 0x63#7
  | .addAccZeroClp28Mc => some 0x68#7
  | .addAccZeroClp28B => some 0x6A#7
  | .addAccZeroClp28L => some 0x6B#7
  | .addBrMrClp32Do5 => some 0x6C#7
  | .addBrLrClp32Do5 => some 0x6D#7
  | .addAccMrClp32Do5 => some 0x6E#7
  | .addAccLrClp32Do5 => some 0x6F#7
  | .addBrMrClp32Do8 => some 0x70#7
  | .addBrLrClp32Do8 => some 0x71#7
  | .addAccMrClp32Do8 => some 0x72#7
  | .addAccLrClp32Do8 => some 0x73#7
  | .addAccMrNoneMdb => some 0x74#7
  | .clraccAlu2 => cfg.alu2ClraccCode
  | .addAccZeroNoneL => cfg.addAccZeroNoneLCode
  | .addAccZeroNoneMd => cfg.addAccZeroNoneMdCode
  | _ => none

/-- The MOP1 code and AD1 of an operation; the address field of a NOP is 0 (R103, R108). -/
def mop1Code : Instr → Option (BitVec 5 × Addr)
  | .nopMop1 => some (0x00#5, 0)
  | .ldDataMd a => some (0x01#5, a)
  | .ldDataB a => some (0x02#5, a)
  | .ldDataL a => some (0x03#5, a)
  | .ldcDataB a => some (0x05#5, a)
  | .ldcDataL a => some (0x06#5, a)
  | .lncDataMd a => some (0x07#5, a)
  | .lncDataB a => some (0x08#5, a)
  | .lncDataL a => some (0x09#5, a)
  | .ldcDataMd a => some (0x14#5, a)
  | .ldDataBl a => some (0x1C#5, a)
  | .ldDataMc a => some (0x1F#5, a)
  | _ => none

/-- The MOP2 code and AD2 of an operation (R104, R108). -/
def mop2Code : Instr → Option (BitVec 3 × Addr)
  | .nopMop2 => some (0x00#3, 0)
  | .ldCoefMc a => some (0x01#3, a)
  | .ldcCoefMc a => some (0x02#3, a)
  | .ldCoefL a => some (0x06#3, a)
  | .lncCoefMc a => some (0x07#3, a)
  | _ => none

/-- The MOP3 code and AD3 of an operation (R105, R108, R113, R114). -/
def mop3Code (cfg : Config) : Instr → Option (BitVec 4 × Addr)
  | .nopMop3 => some (0#4, 0)
  | .dlyptr ptr => some (0#4, ptr)
  | .pcaddr label => some (cfg.pcaddrCode, label)
  | .stMdData a => some (1#4, a)
  | .stBData a => some (2#4, a)
  | .stLData a => some (3#4, a)
  | .stDlyoData a => some (4#4, a)
  | .stDiData a => some (6#4, a)
  | .stMdCoef a => some (7#4, a)
  | .stBCoef a => some (8#4, a)
  | .stLCoef a => some (9#4, a)
  | .stVolData a => cfg.stVolCode.map (fun c => (c, a))
  | _ => none

/-- AD3 beside a MOP3 code: zeros when the code is 0000 and the word neither writes DLYI nor holds a
PC operation, else the operation's operand (R108). -/
def ad3Field (w : InsnWord) (code : BitVec 4) (operand : Addr) : Addr :=
  if code == 0#4 && !writesDlyi w.alu2 && !isPcOp w.alu1 then 0 else operand

/-- The fields of an instruction word: `none` when an operation stands in a field not its own or has
no code under the parameters. A DLYPTR that acts as NOP is encoded as NOP (R108, R280). -/
def encodeFields (cfg : Config) (w : InsnWord) : Option Fields :=
  match alu1Code cfg w.alu1, alu2Code cfg w.alu2, mop1Code w.mop1, mop2Code w.mop2,
      mop3Code cfg (acting w).mop3 with
  | some c1, some c2, some (m1, a1), some (m2, a2), some (m3, a3) =>
    some ⟨c1, c2, m1, a1, m2, a2, m3, ad3Field w m3 a3⟩
  | _, _, _, _, _ => none

/-- The 54 bits of an instruction word. -/
def encode (cfg : Config) (w : InsnWord) : Option InsnBits :=
  (encodeFields cfg w).map packFields

/-- The form of a word that decoding answers with: a well-formed word in which DLYPTR stands only
beside a DLYI write, and in which a STOP carries PCADDR when PCADDR_MOP3_CODE is 0000 (R113). -/
def InsnWord.canonical (cfg : Config) (w : InsnWord) : Bool :=
  w.wellFormed && (!isDlyptr w.mop3 || writesDlyi w.alu2) &&
  !(cfg.pcaddrCode == 0#4 && isPcOp w.alu1 && w.mop3 == .nopMop3)

/-! ### The table's view of a word -/

/-- The operation a word stands for in the opcode table, whose rows are single operations: its first
operation that is not NOP, in field order (log 15). -/
def InsnWord.principal (w : InsnWord) : Instr :=
  if w.alu1 ≠ .nopAlu1 then w.alu1
  else if w.alu2 ≠ .nopAlu2 then w.alu2
  else if w.mop1 ≠ .nopMop1 then w.mop1
  else if w.mop2 ≠ .nopMop2 then w.mop2
  else if w.mop3 ≠ .nopMop3 then w.mop3
  else .nopAlu1

/-- The instruction the decoder reads from the bits `w`, numbered as the opcode table numbers them:
one word of 54 bits, whatever number of bits the table gives the row (R100). A number that does not
fit a word is none. -/
def decodeTableWord (nbits w : Nat) : Option Instr :=
  let bits := w % 2 ^ nbits
  if bits < 2 ^ 54 then
    match decode Config.initial (BitVec.ofNat 54 bits) with
    | .ok word => some word.principal
    | .error _ => none
  else none

end Sys2Proof
end

