-- ==== Sys2Proof/Machine/Arith.lean ====
section
/-! DEFINITION. The arithmetic of the two ALUs and the multiplier (40_alu1.md R132 to R144,
42_alu2.md R180 to R187). -/

namespace Sys2Proof.Machine

/-- `sat(v, n)` (00_scope.md R13): clamps an integer to the range of an n-bit two's complement
number. -/
def satInt (n : Nat) (v : Int) : Int := min (max v (-(2 ^ (n - 1)))) (2 ^ (n - 1) - 1)

/-! ### ALU1 -/

/-- Two's complement absolute value; the most negative word gives itself (R132, R133). -/
def abs48 (v : Data) : Data := if v.msb then -v else v

/-- Invert and add 1 (R134, R135). -/
def neg48 (v : Data) : Data := ~~~v + 1

/-- `SHR(n)`: logical, zeros enter at bit 47 (R140). -/
def shr48 (n : Nat) (v : Data) : Data := v >>> n

/-- `SHL(n)`: bits shifted out at the top are lost (R141). -/
def shl48 (n : Nat) (v : Data) : Data := v <<< n

/-- Bits [27:19] of a word: five integer and four fraction bits (R136(b)). -/
def from54 (bits : BitVec 9) : Data := bits.setWidth 48 <<< 19

/-- The reconstruction of LOG2_FN (R138). -/
def log2Reconstruction (v : Data) : Data :=
  let x := v.setWidth 47
  if x = 0 then from54 0x1FF
  else
    let k := x.toNat.log2
    let p := min (46 - k) 31
    let m : BitVec 4 := ((x.setWidth 51 <<< 4) >>> k).setWidth 4
    from54 (BitVec.ofNat 5 p ++ ~~~m)

/-- The reconstruction of ALOG2_FN (R139). -/
def alog2Reconstruction (v : Data) : Data :=
  let p := v.extractLsb' 23 5
  let f := v.extractLsb' 19 4
  (((1#1 ++ ~~~f : BitVec 5).setWidth 48) <<< 22) >>> p.toNat

/-- LOG2_FN (R136): the four words the source gives, nine free bits LR[27:19] elsewhere in the
stated range, a free word outside it; or the reconstruction, as the parameter says (log 8). -/
def log2Fn (m : LogModel) (v : Data) : Data :=
  match m with
  | .reconstruction => log2Reconstruction v
  | .sourceOnly =>
    if v = 0x200000000000 then 0x000000F80000
    else if v = 0x008000000000 then 0x000003F80000
    else if v = 0 then 0x00000FF80000
    else if v = 0x7FFFFFFFFFFF then 0
    else if v.msb then Config.log2Outside v
    else from54 (Config.log2Bits v)

/-- ALOG2_FN (R137): the two words the source gives, a free number of at most five integer bits for
the other inputs in the 5.4 format, a free word for the rest; or the reconstruction (log 8). -/
def alog2Fn (m : LogModel) (v : Data) : Data :=
  match m with
  | .reconstruction => alog2Reconstruction v
  | .sourceOnly =>
    if v = 0x000000F80000 then 0x000002000000
    else if v = 0x000000780000 then 0x000004000000
    else if v = from54 (v.extractLsb' 19 9) then (Config.alog2Bits v).setWidth 48
    else Config.alog2Outside v

/-! ### The multiplier and the adder -/

/-- The multiplier: 48 by 28 bits, signed, into 76 bits (R180). -/
def product (md : Data) (mc : Coef) : Acc := BitVec.ofInt 76 (md.toInt * mc.toInt)

/-- Conv76 (R183): concatenate 28 zeroes below, then shift right by five, arithmetically. -/
def conv76 (v : Data) : Acc := (v ++ 0#28 : BitVec 76).sshiftRight 5

/-- Magnitude truncation (R184, first part): a negative sum with a non-zero low part gains one unit
of bit 23. -/
def magnitudeTruncate (s : Acc) : Acc :=
  if s.msb ∧ s.extractLsb' 0 23 ≠ 0 then s + 0x800000 else s

/-- Reduce48 (R184): magnitude truncation, then the 48-bit clip on bits 74 to 70. -/
def reduce48 (s : Acc) : Data :=
  let t := magnitudeTruncate s
  if t.msb ∧ t.extractLsb' 70 5 ≠ 0x1F then 0x800000000000
  else if ¬ t.msb ∧ t.extractLsb' 70 5 ≠ 0 then 0x7FFFFFFFFFFF
  else t.extractLsb' 23 48

/-- `quot(sint(s), 2^23)`: the 76-bit sum in units of 2^-23, rounded toward zero (R184). -/
def quot23 (s : Acc) : Int := s.toInt.tdiv (2 ^ 23)

/-- Clip32 (R185), an integer: saturation to 32 + CLP32_LSB bits. -/
def clip32 (win : Clp32Window) (s : Acc) : Int := satInt (32 + win.lsb) (quot23 s)

/-- DOvalue (R185): the 32 bits of Clip32 from CLP32_LSB up. -/
def doValue (win : Clp32Window) (s : Acc) : OutWord :=
  (BitVec.ofInt 48 (clip32 win s)).extractLsb' win.lsb 32

/-- Clip28 (R186): saturation to the 28-bit coefficient range. -/
def clip28 (s : Acc) : Coef := BitVec.ofInt 28 (satInt 28 (quot23 s))

end Sys2Proof.Machine
end

