-- ==== Sys2Proof/Machine/Flags.lean ====
section
/-! DEFINITION. The machine's one flag, A_CP_B (10_state.md R32): what COMP computes (42_alu2.md
R210) and the two conditions that read it (43_mop1.md R237, 41_pc_operations.md R164, R165). -/

namespace Sys2Proof.Machine

/-- CompFn (R210, Table 14): the common sign of like-signed operands; of unlike ones the sign of the
exact sum when A is negative, its complement when B is, and for equal magnitudes the sign of B. -/
def compFn (a b : Acc) : Bool :=
  let s : Int := a.toInt + b.toInt
  if !a.msb && !b.msb then false
  else if a.msb && b.msb then true
  else if s = 0 then !a.msb
  else if a.msb then decide (s < 0)
  else !decide (s < 0)

/-- The condition of BOC and LDC: A_CP_B = 1 (R164, R237). -/
def condSet (acpb : Bool) : Bool := acpb

/-- The condition of BNC and LNC: A_CP_B = 0 (R165, R237). -/
def condClear (acpb : Bool) : Bool := !acpb

end Sys2Proof.Machine
end

