-- ==== Sys2Proof/Machine/State.lean ====
section
/-! DEFINITION. The machine's state as plain data (10_state.md), its faults (00_scope.md R14), its
refusals, and the state after reset (10_state.md R59, 70_reset_and_hazards.md R340). -/

namespace Sys2Proof.Machine

/-- The two memories a load or a store addresses (00_scope.md R13, 20_memory.md R70). -/
inductive Space where
  | data
  | coef
  deriving DecidableEq, Repr

/-- A memory word that carries a mark written or unwritten (10_state.md R48), or an instruction word
the harness has not supplied (70_reset_and_hazards.md R342). -/
inductive WordName where
  | data (a : Nat)
  | coef (a : Nat)
  | instr (a : Nat)
  deriving DecidableEq, Repr

/-- The registers a word may write twice (10_state.md R46, R47). -/
inductive RegName where
  | b | l | md | mc | br | lr | acc | dlyi
  | out (k : Fin 8)
  deriving DecidableEq, Repr

/-- RUN (10_state.md R44). -/
inductive RunState where
  | running
  | stopped
  deriving DecidableEq, Repr

/-- PIPE, the branch pipe after a PC operation (10_state.md R42, 41_pc_operations.md R162). -/
structure Pipe where
  /-- Instruction words still to pass, 1 to 3. -/
  remaining : Nat
  /-- Where the PC goes afterwards, if the branch is taken. -/
  target : Option Addr
  /-- The PC operation is a STOP. -/
  stop : Bool
  deriving DecidableEq, Repr

/-- A store scheduled by MOP3 (20_memory.md R81): a DATA word, a COEF word, or DREG0. -/
inductive StoreReq where
  | data (a : Addr) (v : Data)
  | coef (a : Addr) (v : Coef)
  | dreg0 (v : Data)
  deriving DecidableEq, Repr

/-- The writes scheduled in the clock in progress (00_scope.md R12(b)): every `X <- v` of an
operation puts `v` here, and the end of the clock commits them together. The model's own field
(log 14): empty between two steps. -/
structure Sched where
  b : Option Data
  l : Option Data
  md : Option Data
  mc : Option Coef
  br : Option Data
  lr : Option Data
  acc : Option Acc
  dlyi : Option Data
  /-- DO[k+1] and its value. -/
  out : Option (Fin 8 × OutWord)
  /-- ACPB_PEND (R210). -/
  pend : Option Bool
  /-- PIPE, set by a PC operation (R162). -/
  pipe : Option Pipe
  store : Option StoreReq
  /-- The pointer of a DLYPTR (R280). -/
  dlyPtr : Option Addr
  /-- The word's own store address, announced to its loads before they execute (R83). -/
  storeTo : Option (Space × Addr)
  /-- The first register that two fields of this word have both written (R47). -/
  conflict : Option RegName
  deriving DecidableEq, Repr

/-- Nothing scheduled. -/
def Sched.empty : Sched where
  b := none
  l := none
  md := none
  mc := none
  br := none
  lr := none
  acc := none
  dlyi := none
  out := none
  pend := none
  pipe := none
  store := none
  dlyPtr := none
  storeTo := none
  conflict := none

/-- An action of the host (20_memory.md R86; 60_exceptions.md R320(a), (d), (e), (f)). -/
inductive HostAction where
  /-- HostWrite(DATA, a, v), v being what `Data_to_DSP_o` holds in its low 48 bits (R53, R320(a));
  the addresses 0x2BC and 0x2BD are the LFSR seed and PC START. -/
  | writeData (a : Addr)
  /-- HostWrite(COEF, a, v), v being what `Data_to_DSP_o` holds in its low 28 bits. -/
  | writeCoef (a : Addr)
  /-- A write of an ESFR; a register narrower than eight bits takes the low bits (log 34). -/
  | writeEsfr (r : EsfrName) (v : BitVec 8)
  deriving DecidableEq, Repr

/-- The machine's state (10_state.md R20). Memories are lists of (word address, word) in rising
address order; an unlisted word is unwritten (logs 1, 4). -/
structure State where
  /-- The open parameters (00_scope.md R7). -/
  cfg : Config
  /-- Register B (R21). -/
  b : Data
  /-- Register L (R22). -/
  l : Data
  /-- Register MD (R23). -/
  md : Data
  /-- Register MC (R24). -/
  mc : Coef
  /-- Register BR (R25). -/
  br : Data
  /-- Register LR (R26). -/
  lr : Data
  /-- Register MR (R27). -/
  mr : Acc
  /-- The accumulator (R28). -/
  acc : Acc
  /-- The program counter: an instruction-memory word address (R30; log 22). -/
  pc : Nat
  /-- The flag A_CP_B (R32). -/
  acpb : Bool
  /-- Register DI, one word per input channel (R33). -/
  di : Vector Data 8
  /-- DO1 to DO8, DOk at index k - 1 (R34). -/
  outs : Vector OutWord 8
  /-- Register VOL, 24 values (R35). -/
  vol : Vector Data 24
  /-- Register LFS, the DSP's view of the LFSR (R36). -/
  lfs : Data
  /-- Register DLYI (R37). -/
  dlyi : Data
  /-- Register DLYO (R38). -/
  dlyo : Data
  /-- The delay pointer selection (R39). -/
  dlyPtr : Addr
  /-- ACPB_PEND (R40). -/
  pend : Option Bool
  /-- LAST_STORE (R41). -/
  lastStore : Option (Space × Addr)
  /-- PIPE (R42). -/
  pipe : Option Pipe
  /-- DLY_AGE (R43). -/
  dlyAge : Option Nat
  /-- RUN (R44). -/
  run : RunState
  /-- DATA RAM (20_memory.md R71). -/
  data : List (Nat × Data)
  /-- COEF RAM (20_memory.md R72). -/
  coef : List (Nat × Coef)
  /-- The instruction memory (20_memory.md R73). -/
  imem : List (Nat × InsnBits)
  /-- What the delay memory has taken, newest first (20_memory.md R74; 60_exceptions.md R316). -/
  delayLog : List (Addr × Data)
  /-- DREG0 (R57, R286). -/
  dreg0 : Data
  /-- The LFSR seed (R57). -/
  lfsrSeed : Data
  /-- PC START (R57). -/
  pcStart : Data
  /-- The host's ESFRs (R51, R53 to R55). -/
  esfr : Esfr
  /-- Host actions not yet taken, oldest first: the model's own field (log 18). -/
  hostQueue : List HostAction
  /-- Clocks of this frame so far: the frame sequencer's count (60_exceptions.md R322). -/
  frameClock : Nat
  /-- Frames begun since reset: the model's own field (log 21). -/
  frame : Nat
  /-- The clock t: DSP clocks since reset, the argument of the free values: the model's own field
  (00_scope.md R12; log 30). -/
  now : Nat
  /-- The writes scheduled in the clock in progress: the model's own field (log 14). -/
  sched : Sched
  deriving DecidableEq, Repr

/-- Where a fault was raised: PC_t and the clock t (60_exceptions.md R301). -/
structure Site where
  /-- PC_t. -/
  pc : Nat
  /-- The clock t, from 0 at the first clock after reset (log 30). -/
  clock : Nat
  deriving DecidableEq, Repr

/-- The model-level faults, the closed list of 00_scope.md R14. The hardware has no trap (R300): a
fault ends the run with the state before the word as the last defined one, and each records its
argument, PC_t and the clock t (R301). Every one is SAFE: the chip goes on in some way the source
does not give. -/
inductive Fault where
  /-- Decoding: a field holds a code no table and no parameter assigns (R115). Safe. -/
  | illegalEncoding (field : Slot) (code : Nat) (site : Site)
  /-- A word with JMP, BOC, BNC, STOP or PCADDR in a form R161 forbids. Safe. -/
  | pcOpMalformed (site : Site)
  /-- A non-NOP word among the three after a PC operation (R162). Safe. -/
  | pipeNotClear (site : Site)
  /-- MOP1 LD(D_addr,MC) with MOP2 LD(C_addr,L) (R238). Safe. -/
  | busConflict (site : Site)
  /-- Two fields of one word write one register (R47). Safe. -/
  | writeConflict (reg : RegName) (site : Site)
  /-- A MOP1 or MOP2 load of a word stored by the previous or by the same word (R82, R83). Safe. -/
  | loadAfterStore (space : Space) (addr : Addr) (site : Site)
  /-- A MOP1 or MOP2 load or a MOP3 store of an address not implemented and not special in the way
  used (R84). A host write never raises it (log 19). Safe. -/
  | addressOutOfRange (space : Space) (addr : Addr) (site : Site)
  /-- A read of a memory word nothing has written, a fetch of one not supplied (R48, R80, R342).
  Registers never raise it (log 2). Safe. -/
  | unwrittenRead (word : WordName) (site : Site)
  /-- ST(DLYO,...) fewer than DLY_LATENCY clocks after the last DLYI write, or with none (R285);
  records DLY_AGE. Safe. -/
  | delayTooEarly (age : Option Nat) (site : Site)
  /-- ALU2 writes DLYI in a word whose MOP3 is not DLYPTR (R283). Safe. -/
  | delayPointerMissing (site : Site)
  /-- The PC has left the instruction memory, or a branch names a target outside it (R168).
  Safe. -/
  | pcOutOfRange (site : Site)
  /-- A frame boundary arrives while the program has not stopped (R304). Safe. -/
  | frameOverrun (site : Site)
  deriving DecidableEq, Repr

/-- Refusals: actions the model does not offer. -/
inductive Refusal where
  /-- Raised by an arm of `exec` whose instruction has no meaning yet. Safe: nothing is claimed. -/
  | notModelled (mnemonic : String)
  /-- Raised by the host's write of the instruction memory once the DSP runs (R90). Safe: the spec
  forbids the schedule. -/
  | hostProgramWriteWhileRunning
  /-- Raised by the host's write of DREG0, of the LFSR or of a word past the end of DATA or COEF
  RAM. DESIGN CHOICE: the spec gives such a write no outcome, and R301 names no host write among
  what raises a fault (R57, R86; log 19). Safe: nothing is claimed. -/
  | hostWriteNotDescribed (space : Space) (addr : Addr)
  /-- Raised by the host's write of an instruction word at IMEM_WORDS or above. DESIGN CHOICE: the
  spec says nothing of it (R90, R342; log 20). Safe: nothing is claimed. -/
  | hostProgramNoSuchWord (addr : Nat)
  deriving DecidableEq, Repr

/-- The outcome of a step, of a meaning, or of a host action. -/
abbrev Result := Host.Outcome State Fault Refusal

/-- The machine right after reset (10_state.md R59; 70 R340): PC = 0, the hidden state absent,
memory with nothing written, the ESFRs 0. RUN is `running` "from the first frame start": before it the
machine stands at a frame boundary, stopped, so that its first step is the frame sequencer's start
of the first frame, as of every frame (R303; log 21). Every register the spec gives no reset value
is 0, DESIGN CHOICE (logs 2, 3, 5). -/
def State.reset : State where
  cfg := Config.initial
  b := 0
  l := 0
  md := 0
  mc := 0
  br := 0
  lr := 0
  mr := 0
  acc := 0
  pc := 0
  acpb := false
  di := Vector.replicate 8 0
  outs := Vector.replicate 8 0
  vol := Vector.replicate 24 0
  lfs := 0
  dlyi := 0
  dlyo := 0
  dlyPtr := 0
  pend := none
  lastStore := none
  pipe := none
  dlyAge := none
  run := .stopped
  data := []
  coef := []
  imem := []
  delayLog := []
  dreg0 := 0
  lfsrSeed := 0
  pcStart := 0
  esfr := Esfr.reset
  hostQueue := []
  frameClock := Config.initial.cyclesPerFrame
  frame := 0
  now := 0
  sched := Sched.empty

end Sys2Proof.Machine
end

