-- ==== Sys2Proof/Machine/Memory.lean ====
section
/-! DEFINITION. Word memories: lists of (word address, word) with strictly rising addresses
(20_memory.md R70 to R73, R76). An unlisted word is unwritten and has no value (10_state.md R48), so
a listed word never equals what an unlisted one reads as. -/

namespace Sys2Proof.Machine

/-- The canonical form: addresses strictly rising. -/
def Memory.wf {w : Nat} : List (Nat × BitVec w) → Bool
  | [] => true
  | [_] => true
  | (a, _) :: (b, v) :: m => decide (a < b) && Memory.wf ((b, v) :: m)

/-- The word at an address; `none` where nothing has written it. -/
def Memory.read {w : Nat} : List (Nat × BitVec w) → Nat → Option (BitVec w)
  | [], _ => none
  | (a, v) :: m, x => if x = a then some v else Memory.read m x

/-- Writes a word, in its place in the rising order. -/
def Memory.write {w : Nat} : List (Nat × BitVec w) → Nat → BitVec w → List (Nat × BitVec w)
  | [], x, v => [(x, v)]
  | (a, u) :: m, x, v =>
    if x < a then (x, v) :: (a, u) :: m
    else if x = a then (a, v) :: m
    else (a, u) :: Memory.write m x v

/-- Every listed address is below `n`. -/
def Memory.below {w : Nat} (n : Nat) (m : List (Nat × BitVec w)) : Bool :=
  m.all (fun p => decide (p.1 < n))

end Sys2Proof.Machine
end

