-- ==== Sys2Proof/Machine/Operands.lean ====
section
/-! DEFINITION. Where operands come from and in what form: adder and compare operands (42_alu2.md
R181 to R183), clips (R184 to R187), the special DATA addresses (10_state.md R57), memory reads
(20_memory.md R80) and the sources of a store (45_mop3.md R267 to R275). Every register read is its
value before the word (00_scope.md R12(a)): nothing here reads a scheduled value. -/

namespace Sys2Proof.Machine

/-! ### The 76-bit adder's operands and results -/

/-- Operand A of ADD and COMP (R181). -/
inductive OperandA where
  | acc
  | br
  deriving DecidableEq, Repr

/-- Operand B of ADD and COMP; ZERO in ADD only (R182). -/
inductive OperandB where
  | mr
  | lr
  | zero
  deriving DecidableEq, Repr

/-- The clip named by an ADD (R184, R185, R186). -/
inductive Clip where
  | none
  | clp32
  | clp28
  deriving DecidableEq, Repr

/-- The destination named by an ADD (R187); `out k` is DO(k+1). -/
inductive Dest where
  | acc
  | b
  | l
  | md
  | mc
  | dlyi
  | out (k : Fin 8)
  | mdb
  deriving DecidableEq, Repr

/-- The 76-bit value of operand A (R181, R183). -/
def valueA (a : OperandA) (s : State) : Acc :=
  match a with
  | .acc => s.acc
  | .br => conv76 s.br

/-- The 76-bit value of operand B (R182, R183, R29). -/
def valueB (b : OperandB) (s : State) : Acc :=
  match b with
  | .mr => s.mr
  | .lr => conv76 s.lr
  | .zero => 0

/-- The 76-bit sum; a carry out of bit 75 is lost (R188). -/
def sumOf (a : OperandA) (b : OperandB) (s : State) : Acc := valueA a s + valueB b s

/-- What a 48-bit destination receives under a clip (R187). -/
def clip48 (win : Clp32Window) (c : Clip) (sum : Acc) : Data :=
  match c with
  | .none => reduce48 sum
  | .clp32 => BitVec.ofInt 48 (clip32 win sum)
  | .clp28 => (clip28 sum).signExtend 48

/-- What MC receives under a clip: the low 28 bits (R187). -/
def clipMc (win : Clp32Window) (c : Clip) (sum : Acc) : Coef := (clip48 win c sum).setWidth 28

/-! ### Special DATA addresses (R57) -/

/-- 0x301, the LFSR. -/
def lfsrAddr : Addr := 0x301

/-- 0x2BC, the LFSR seed. -/
def seedAddr : Addr := 0x2BC

/-- 0x2BD, PC START. -/
def pcStartAddr : Addr := 0x2BD

/-- 0x2BE, DREG0. -/
def dreg0Addr : Addr := 0x2BE

/-! ### What a fault records -/

/-- PC_t and the clock t of the clock in progress, or of the one about to start (R301). -/
def siteOf (s : State) : Site := ⟨s.pc, s.now⟩

/-! ### Memory reads -/

/-- MemRead(DATA, a, 48) (R80): 0x301 returns the LFSR value; the other special locations, an
address past the end, a word stored by the previous or by this word, and an unwritten word fault. -/
def memReadData (a : Addr) (s : State) : Except Fault Data :=
  if a = lfsrAddr then .ok s.lfs
  else if a = seedAddr ∨ a = pcStartAddr ∨ a = dreg0Addr then
    .error (.addressOutOfRange .data a (siteOf s))
  else if s.cfg.dataWords ≤ a.toNat then .error (.addressOutOfRange .data a (siteOf s))
  else if s.lastStore = some (.data, a) then .error (.loadAfterStore .data a (siteOf s))
  else if s.sched.storeTo = some (.data, a) then .error (.loadAfterStore .data a (siteOf s))
  else
    match Memory.read s.data a.toNat with
    | none => .error (.unwrittenRead (.data a.toNat) (siteOf s))
    | some v => .ok v

/-- MemRead(COEF, a, 28) (R80, R250): COEF has no special locations. -/
def memReadCoef (a : Addr) (s : State) : Except Fault Coef :=
  if s.cfg.coefWords ≤ a.toNat then .error (.addressOutOfRange .coef a (siteOf s))
  else if s.lastStore = some (.coef, a) then .error (.loadAfterStore .coef a (siteOf s))
  else if s.sched.storeTo = some (.coef, a) then .error (.loadAfterStore .coef a (siteOf s))
  else
    match Memory.read s.coef a.toNat with
    | none => .error (.unwrittenRead (.coef a.toNat) (siteOf s))
    | some v => .ok v

/-- The 28 bits of a DATA word that reach MC: the low ones (R79, R235). -/
def coefOfData (v : Data) : Coef := v.setWidth 28

/-- How a COEF word fills L: sign-extended (R79, R253). -/
def dataOfCoef (v : Coef) : Data := v.signExtend 48

/-! ### Sources of a store -/

/-- The input channel that a DI store's address selects: `ad3[2:0]` (R270, R85). -/
def diChannel (a : Addr) : Fin 8 := ⟨(a.extractLsb' 0 3).toNat, (a.extractLsb' 0 3).isLt⟩

/-- DI[ch] for a store address (R270). -/
def diSource (a : Addr) (s : State) : Data := s.di[diChannel a]

/-- The VOL value that a store's address selects: `VOL[ad3[4:0]]` below 24, a free value for the
offsets 24 to 31 (R272). -/
def volSource (a : Addr) (s : State) : Data :=
  let i := (a.extractLsb' 0 5).toNat
  if h : i < 24 then s.vol[i] else Config.volUnnamed s.now i

end Sys2Proof.Machine
end

