-- ==== Sys2Proof/Machine/Ops.lean ====
section
/-! DEFINITION. The shared operations of the meanings: scheduling a register write (00_scope.md
R12(b), 10_state.md R47), the ADD and COMP of ALU2 (42_alu2.md R188, R210), loads (43_mop1.md R230,
R237; 44_mop2.md R250), stores (45_mop3.md R265; 20_memory.md R81) and the PC operations
(41_pc_operations.md R162).

Taking an exception and returning from one: the machine has neither (60_exceptions.md R300, R307,
R308, R327), so no operation here saves or restores anything. The one involuntary transfer of
control, the frame restart (R303), is `frameRestart` of Machine/Clock.lean. -/

namespace Sys2Proof.Machine

/-- Runs `g` on the next state, passes a fault or a refusal on. -/
def andThen (r : Result) (g : State → Result) : Result :=
  match r with
  | .next s => g s
  | .fault f => .fault f
  | .refused q => .refused q

/-! ### Scheduling register writes -/

/-- The first register written twice so far: an earlier one stays (R47, R306(10)). -/
def noteWrite (c : Sched) (already : Bool) (r : RegName) : Option RegName :=
  match c.conflict with
  | some q => some q
  | none => if already then some r else none

/-- `B <- v`. -/
def setB (v : Data) (s : State) : State :=
  { s with sched := { s.sched with
      b := some v, conflict := noteWrite s.sched s.sched.b.isSome .b } }

/-- `L <- v`. -/
def setL (v : Data) (s : State) : State :=
  { s with sched := { s.sched with
      l := some v, conflict := noteWrite s.sched s.sched.l.isSome .l } }

/-- `MD <- v`. -/
def setMd (v : Data) (s : State) : State :=
  { s with sched := { s.sched with
      md := some v, conflict := noteWrite s.sched s.sched.md.isSome .md } }

/-- `MC <- v`. -/
def setMc (v : Coef) (s : State) : State :=
  { s with sched := { s.sched with
      mc := some v, conflict := noteWrite s.sched s.sched.mc.isSome .mc } }

/-- `BR <- v`. -/
def setBr (v : Data) (s : State) : State :=
  { s with sched := { s.sched with
      br := some v, conflict := noteWrite s.sched s.sched.br.isSome .br } }

/-- `LR <- v`. -/
def setLr (v : Data) (s : State) : State :=
  { s with sched := { s.sched with
      lr := some v, conflict := noteWrite s.sched s.sched.lr.isSome .lr } }

/-- `ACC <- v`. -/
def setAcc (v : Acc) (s : State) : State :=
  { s with sched := { s.sched with
      acc := some v, conflict := noteWrite s.sched s.sched.acc.isSome .acc } }

/-- `DLYI <- v`. -/
def setDlyi (v : Data) (s : State) : State :=
  { s with sched := { s.sched with
      dlyi := some v, conflict := noteWrite s.sched s.sched.dlyi.isSome .dlyi } }

/-- `DO[k+1] <- v`; one word holds one ADD, so a second write is of the same field's register. -/
def setOut (k : Fin 8) (v : OutWord) (s : State) : State :=
  { s with sched := { s.sched with
      out := some (k, v), conflict := noteWrite s.sched s.sched.out.isSome (.out k) } }

/-- `ACC <- 0^76` of CLRACC (R142, R190). -/
def clearAcc (s : State) : State := setAcc 0 s

/-- The ALU2 CLRACC beside an ALU1 CLRACC writes the same value twice and is no conflict (R47,
R142, R190). -/
def clearAccAgain (s : State) : State := if s.sched.acc = some 0 then s else clearAcc s

/-! ### ALU2 -/

/-- The write of an ADD's sum to its destination under its clip (R187). -/
def writeSum (c : Clip) (d : Dest) (sum : Acc) (s : State) : State :=
  match d with
  | .acc => setAcc sum s
  | .b => setB (clip48 s.cfg.clp32 c sum) s
  | .l => setL (clip48 s.cfg.clp32 c sum) s
  | .md => setMd (clip48 s.cfg.clp32 c sum) s
  | .mc => setMc (clipMc s.cfg.clp32 c sum) s
  | .dlyi => setDlyi (clip48 s.cfg.clp32 c sum) s
  | .out k => setOut k (doValue s.cfg.clp32 sum) s
  | .mdb =>
    setAcc 0 (setB (clip48 s.cfg.clp32 c sum) (setMd (clip48 s.cfg.clp32 c sum) s))

/-- `ADD(a, b, c, d)` (R188). -/
def addTo (a : OperandA) (b : OperandB) (c : Clip) (d : Dest) (s : State) : Result :=
  .next (writeSum c d (sumOf a b s) s)

/-- `COMP(a, b)`: ACPB_PEND <- CompFn, which becomes A_CP_B two clocks after the word (R210,
R215). -/
def compare (a : OperandA) (b : OperandB) (s : State) : Result :=
  .next { s with sched := { s.sched with pend := some (compFn (valueA a s) (valueB b s)) } }

/-! ### Loads -/

/-- A MOP1 load: MemRead and the write of its destination (R230). -/
def loadData (a : Addr) (dest : Data → State → State) (s : State) : Result :=
  match memReadData a s with
  | .error f => .fault f
  | .ok v => .next (dest v s)

/-- A MOP2 load (R250). -/
def loadCoef (a : Addr) (dest : Coef → State → State) (s : State) : Result :=
  match memReadCoef a s with
  | .error f => .fault f
  | .ok v => .next (dest v s)

/-- A conditional load: nothing is read and nothing written when the condition is false (R237). -/
def loadIf (cond : Bool) (load : State → Result) (s : State) : Result :=
  if cond then load s else .next s

/-- Destination BL: the one word goes to B and to L (R234). -/
def setBl (v : Data) (s : State) : State := setL v (setB v s)

/-! ### Stores -/

/-- `LAST_STORE`, and the word's store, as a scheduled write (R81). -/
def schedStore (q : StoreReq) (s : State) : State :=
  { s with sched := { s.sched with store := some q } }

/-- MemWrite(DATA, a, 48, v) (R81): 0x2BE is DREG0; the other special locations and an address past
the end fault. -/
def storeData (a : Addr) (v : Data) (s : State) : Result :=
  if a = dreg0Addr then .next (schedStore (.dreg0 v) s)
  else if a = seedAddr ∨ a = pcStartAddr ∨ a = lfsrAddr then
    .fault (.addressOutOfRange .data a (siteOf s))
  else if s.cfg.dataWords ≤ a.toNat then .fault (.addressOutOfRange .data a (siteOf s))
  else .next (schedStore (.data a v) s)

/-- MemWrite(COEF, a, 28, v[27:0]) of a 48-bit register: the low 28 bits (R81, R273). -/
def storeCoef (a : Addr) (v : Data) (s : State) : Result :=
  if s.cfg.coefWords ≤ a.toNat then .fault (.addressOutOfRange .coef a (siteOf s))
  else .next (schedStore (.coef a (v.setWidth 28)) s)

/-- DLYO may be stored DLY_LATENCY clocks after the DLYI write or later (R271, R285). -/
def delayReady (s : State) : Bool :=
  match s.dlyAge with
  | none => false
  | some n => decide (dlyLatency ≤ n)

/-- `DLYPTR(ptr)`: the pointer the delay memory takes with this word's DLYI (R280). -/
def selectPointer (ptr : Addr) (s : State) : State :=
  { s with sched := { s.sched with dlyPtr := some ptr } }

/-! ### PC operations -/

/-- The target lies in the operation's own four words (R161(e)). -/
def inOwnWords (target : Addr) (s : State) : Bool :=
  decide (s.pc ≤ target.toNat) && decide (target.toNat ≤ s.pc + 3)

/-- `PIPE <- (3, target or none, stop or not)` (R162). -/
def schedPipe (target : Option Addr) (stop : Bool) (s : State) : State :=
  { s with sched := { s.sched with pipe := some ⟨pipeClear, target, stop⟩ } }

/-- JMP, BOC, BNC (R163 to R165): the check of R161(e), a target outside the instruction memory,
taken or not (R168; log 22), then the pipe with the target if taken. -/
def branchIf (taken : Bool) (target : Addr) (s : State) : Result :=
  if inOwnWords target s then .fault (.pcOpMalformed (siteOf s))
  else if s.cfg.imemWords ≤ target.toNat then .fault (.pcOutOfRange (siteOf s))
  else .next (schedPipe (if taken then some target else none) false s)

end Sys2Proof.Machine
end

