-- ==== Sys2Proof/Machine/Alu1.lean ====
section
/-! DEFINITION. The ALU1 arithmetic operations (40_alu1.md R130 to R144): each reads B or L of the
state before the word and schedules a write of BR or LR; CLRACC schedules one of ACC. -/

namespace Sys2Proof.Machine

/-- `NOP (ALU1)`: nothing (R131). -/
def execNopAlu1 (s : State) : Result := .next s

/-- `ABS(B)`: BR <- the absolute value of B (R132). -/
def execAbsB (s : State) : Result := .next (setBr (abs48 s.b) s)

/-- `NEG(B)`: BR <- the two's complement of B (R134). -/
def execNegB (s : State) : Result := .next (setBr (neg48 s.b) s)

/-- `NEG(L)`: LR <- the two's complement of L (R135). -/
def execNegL (s : State) : Result := .next (setLr (neg48 s.l) s)

/-- `LOG2`: LR <- LOG2_FN(L) (R136). -/
def execLog2 (s : State) : Result := .next (setLr (log2Fn s.cfg.logs s.l) s)

/-- `ALOG2`: LR <- ALOG2_FN(L) (R137). -/
def execAlog2 (s : State) : Result := .next (setLr (alog2Fn s.cfg.logs s.l) s)

/-- `SHR(1)`: BR <- B shifted right, logically, by 1 (R140). -/
def execShr1 (s : State) : Result := .next (setBr (shr48 1 s.b) s)

/-- `SHR(2)`: BR <- B shifted right, logically, by 2 (R140). -/
def execShr2 (s : State) : Result := .next (setBr (shr48 2 s.b) s)

/-- `SHR(3)`: BR <- B shifted right, logically, by 3 (R140). -/
def execShr3 (s : State) : Result := .next (setBr (shr48 3 s.b) s)

/-- `SHR(4)`: BR <- B shifted right, logically, by 4 (R140). -/
def execShr4 (s : State) : Result := .next (setBr (shr48 4 s.b) s)

/-- `SHL(1)`: BR <- B shifted left by 1 (R141). -/
def execShl1 (s : State) : Result := .next (setBr (shl48 1 s.b) s)

/-- `SHL(2)`: BR <- B shifted left by 2 (R141). -/
def execShl2 (s : State) : Result := .next (setBr (shl48 2 s.b) s)

/-- `SHL(3)`: BR <- B shifted left by 3 (R141). -/
def execShl3 (s : State) : Result := .next (setBr (shl48 3 s.b) s)

/-- `SHL(4)`: BR <- B shifted left by 4 (R141). -/
def execShl4 (s : State) : Result := .next (setBr (shl48 4 s.b) s)

/-- `ABS(L)`: LR <- the absolute value of L (R133). -/
def execAbsL (s : State) : Result := .next (setLr (abs48 s.l) s)

/-- `CLRACC (ALU1)`: ACC <- 0^76 (R142). -/
def execClraccAlu1 (s : State) : Result := .next (clearAcc s)

/-- `THRU(B)`: BR <- B (R143). -/
def execThruB (s : State) : Result := .next (setBr s.b s)

/-- `THRU(L)`: LR <- L (R144). -/
def execThruL (s : State) : Result := .next (setLr s.l s)

/-- `SHL(20)`: BR <- B shifted left by 20 (R141). -/
def execShl20 (s : State) : Result := .next (setBr (shl48 20 s.b) s)

end Sys2Proof.Machine
end

