-- ==== Sys2Proof/Machine/Alu2.lean ====
section
/-! DEFINITION. The ALU2 operations (42_alu2.md R189 to R214): one operand pair, clip and
destination each. -/

namespace Sys2Proof.Machine

/-- `NOP (ALU2)`: nothing (R189). -/
def execNopAlu2 (s : State) : Result := .next s

/-- `ADD(BR,MR,NONE,MD)` (R191). -/
def execAddBrMrNoneMd (s : State) : Result := addTo .br .mr .none .md s

/-- `ADD(BR,MR,NONE,B)` (R191). -/
def execAddBrMrNoneB (s : State) : Result := addTo .br .mr .none .b s

/-- `ADD(BR,MR,NONE,L)` (R191). -/
def execAddBrMrNoneL (s : State) : Result := addTo .br .mr .none .l s

/-- `ADD(BR,MR,NONE,MC)` (R191). -/
def execAddBrMrNoneMc (s : State) : Result := addTo .br .mr .none .mc s

/-- `ADD(BR,MR,NONE,ACC)` (R191). -/
def execAddBrMrNoneAcc (s : State) : Result := addTo .br .mr .none .acc s

/-- `ADD(BR,MR,NONE,DLYI)` (R191). -/
def execAddBrMrNoneDlyi (s : State) : Result := addTo .br .mr .none .dlyi s

/-- `COMP(BR,MR)`: ACPB_PEND <- CompFn (R211, R210). -/
def execCompBrMr (s : State) : Result := compare .br .mr s

/-- `ADD(BR,LR,NONE,MD)` (R193). -/
def execAddBrLrNoneMd (s : State) : Result := addTo .br .lr .none .md s

/-- `ADD(BR,LR,NONE,B)` (R193). -/
def execAddBrLrNoneB (s : State) : Result := addTo .br .lr .none .b s

/-- `ADD(BR,LR,NONE,L)` (R193). -/
def execAddBrLrNoneL (s : State) : Result := addTo .br .lr .none .l s

/-- `ADD(BR,LR,NONE,MC)` (R193). -/
def execAddBrLrNoneMc (s : State) : Result := addTo .br .lr .none .mc s

/-- `ADD(BR,LR,NONE,DLYI)` (R193). -/
def execAddBrLrNoneDlyi (s : State) : Result := addTo .br .lr .none .dlyi s

/-- `COMP(BR,LR)`: ACPB_PEND <- CompFn (R212, R210). -/
def execCompBrLr (s : State) : Result := compare .br .lr s

/-- `ADD(ACC,MR,NONE,MD)` (R197). -/
def execAddAccMrNoneMd (s : State) : Result := addTo .acc .mr .none .md s

/-- `ADD(ACC,MR,NONE,B)` (R197). -/
def execAddAccMrNoneB (s : State) : Result := addTo .acc .mr .none .b s

/-- `ADD(ACC,MR,NONE,L)` (R197). -/
def execAddAccMrNoneL (s : State) : Result := addTo .acc .mr .none .l s

/-- `ADD(ACC,MR,NONE,MC)` (R197). -/
def execAddAccMrNoneMc (s : State) : Result := addTo .acc .mr .none .mc s

/-- `ADD(ACC,MR,NONE,ACC)` (R197). -/
def execAddAccMrNoneAcc (s : State) : Result := addTo .acc .mr .none .acc s

/-- `ADD(ACC,MR,NONE,DLYI)` (R197). -/
def execAddAccMrNoneDlyi (s : State) : Result := addTo .acc .mr .none .dlyi s

/-- `COMP(ACC,MR)`: ACPB_PEND <- CompFn (R213, R210). -/
def execCompAccMr (s : State) : Result := compare .acc .mr s

/-- `ADD(ACC,LR,NONE,MD)` (R199). -/
def execAddAccLrNoneMd (s : State) : Result := addTo .acc .lr .none .md s

/-- `ADD(ACC,LR,NONE,B)` (R199). -/
def execAddAccLrNoneB (s : State) : Result := addTo .acc .lr .none .b s

/-- `ADD(ACC,LR,NONE,L)` (R199). -/
def execAddAccLrNoneL (s : State) : Result := addTo .acc .lr .none .l s

/-- `ADD(ACC,LR,NONE,MC)` (R199). -/
def execAddAccLrNoneMc (s : State) : Result := addTo .acc .lr .none .mc s

/-- `ADD(ACC,LR,NONE,ACC)` (R199). -/
def execAddAccLrNoneAcc (s : State) : Result := addTo .acc .lr .none .acc s

/-- `ADD(ACC,LR,NONE,DLYI)` (R199). -/
def execAddAccLrNoneDlyi (s : State) : Result := addTo .acc .lr .none .dlyi s

/-- `COMP(ACC,LR)`: ACPB_PEND <- CompFn (R214, R210). -/
def execCompAccLr (s : State) : Result := compare .acc .lr s

/-- `ADD(BR,MR,CLP32,DO4)` (R192). -/
def execAddBrMrClp32Do4 (s : State) : Result := addTo .br .mr .clp32 (.out 3) s

/-- `ADD(BR,MR,CLP32,DO1)` (R192). -/
def execAddBrMrClp32Do1 (s : State) : Result := addTo .br .mr .clp32 (.out 0) s

/-- `ADD(BR,MR,CLP32,DO2)` (R192). -/
def execAddBrMrClp32Do2 (s : State) : Result := addTo .br .mr .clp32 (.out 1) s

/-- `ADD(BR,MR,CLP32,DO3)` (R192). -/
def execAddBrMrClp32Do3 (s : State) : Result := addTo .br .mr .clp32 (.out 2) s

/-- `ADD(BR,LR,CLP32,DO1)` (R194). -/
def execAddBrLrClp32Do1 (s : State) : Result := addTo .br .lr .clp32 (.out 0) s

/-- `ADD(BR,LR,CLP32,DO2)` (R194). -/
def execAddBrLrClp32Do2 (s : State) : Result := addTo .br .lr .clp32 (.out 1) s

/-- `ADD(BR,LR,CLP32,DO3)` (R194). -/
def execAddBrLrClp32Do3 (s : State) : Result := addTo .br .lr .clp32 (.out 2) s

/-- `ADD(BR,LR,CLP32,DO4)` (R194). -/
def execAddBrLrClp32Do4 (s : State) : Result := addTo .br .lr .clp32 (.out 3) s

/-- `ADD(ACC,MR,CLP32,DO1)` (R198). -/
def execAddAccMrClp32Do1 (s : State) : Result := addTo .acc .mr .clp32 (.out 0) s

/-- `ADD(ACC,MR,CLP32,DO2)` (R198). -/
def execAddAccMrClp32Do2 (s : State) : Result := addTo .acc .mr .clp32 (.out 1) s

/-- `ADD(ACC,MR,CLP32,DO3)` (R198). -/
def execAddAccMrClp32Do3 (s : State) : Result := addTo .acc .mr .clp32 (.out 2) s

/-- `ADD(ACC,MR,CLP32,DO4)` (R198). -/
def execAddAccMrClp32Do4 (s : State) : Result := addTo .acc .mr .clp32 (.out 3) s

/-- `ADD(ACC,LR,CLP32,DO1)` (R200). -/
def execAddAccLrClp32Do1 (s : State) : Result := addTo .acc .lr .clp32 (.out 0) s

/-- `ADD(ACC,LR,CLP32,DO2)` (R200). -/
def execAddAccLrClp32Do2 (s : State) : Result := addTo .acc .lr .clp32 (.out 1) s

/-- `ADD(ACC,LR,CLP32,DO3)` (R200). -/
def execAddAccLrClp32Do3 (s : State) : Result := addTo .acc .lr .clp32 (.out 2) s

/-- `ADD(ACC,LR,CLP32,DO4)` (R200). -/
def execAddAccLrClp32Do4 (s : State) : Result := addTo .acc .lr .clp32 (.out 3) s

/-- `ADD(ACC,ZERO,NONE,B)` (R201). -/
def execAddAccZeroNoneB (s : State) : Result := addTo .acc .zero .none .b s

/-- `ADD(BR,ZERO,NONE,MD)` (R195). -/
def execAddBrZeroNoneMd (s : State) : Result := addTo .br .zero .none .md s

/-- `ADD(BR,ZERO,NONE,B)` (R195). -/
def execAddBrZeroNoneB (s : State) : Result := addTo .br .zero .none .b s

/-- `ADD(BR,ZERO,NONE,L)` (R195). -/
def execAddBrZeroNoneL (s : State) : Result := addTo .br .zero .none .l s

/-- `ADD(BR,ZERO,NONE,MC)` (R195). -/
def execAddBrZeroNoneMc (s : State) : Result := addTo .br .zero .none .mc s

/-- `ADD(BR,ZERO,CLP32,B)` (R196). -/
def execAddBrZeroClp32B (s : State) : Result := addTo .br .zero .clp32 .b s

/-- `ADD(BR,MR,CLP32,DO6)` (R192). -/
def execAddBrMrClp32Do6 (s : State) : Result := addTo .br .mr .clp32 (.out 5) s

/-- `ADD(BR,MR,CLP32,DO7)` (R192). -/
def execAddBrMrClp32Do7 (s : State) : Result := addTo .br .mr .clp32 (.out 6) s

/-- `ADD(BR,LR,CLP32,DO6)` (R194). -/
def execAddBrLrClp32Do6 (s : State) : Result := addTo .br .lr .clp32 (.out 5) s

/-- `ADD(BR,LR,CLP32,DO7)` (R194). -/
def execAddBrLrClp32Do7 (s : State) : Result := addTo .br .lr .clp32 (.out 6) s

/-- `ADD(ACC,MR,CLP32,DO6)` (R198). -/
def execAddAccMrClp32Do6 (s : State) : Result := addTo .acc .mr .clp32 (.out 5) s

/-- `ADD(ACC,MR,CLP32,DO7)` (R198). -/
def execAddAccMrClp32Do7 (s : State) : Result := addTo .acc .mr .clp32 (.out 6) s

/-- `ADD(ACC,LR,CLP32,DO6)` (R200). -/
def execAddAccLrClp32Do6 (s : State) : Result := addTo .acc .lr .clp32 (.out 5) s

/-- `ADD(ACC,LR,CLP32,DO7)` (R200). -/
def execAddAccLrClp32Do7 (s : State) : Result := addTo .acc .lr .clp32 (.out 6) s

/-- `ADD(ACC,ZERO,CLP28,MC)` (R202). -/
def execAddAccZeroClp28Mc (s : State) : Result := addTo .acc .zero .clp28 .mc s

/-- `ADD(ACC,ZERO,CLP28,B)` (R202). -/
def execAddAccZeroClp28B (s : State) : Result := addTo .acc .zero .clp28 .b s

/-- `ADD(ACC,ZERO,CLP28,L)` (R202). -/
def execAddAccZeroClp28L (s : State) : Result := addTo .acc .zero .clp28 .l s

/-- `ADD(BR,MR,CLP32,DO5)` (R192). -/
def execAddBrMrClp32Do5 (s : State) : Result := addTo .br .mr .clp32 (.out 4) s

/-- `ADD(BR,LR,CLP32,DO5)` (R194). -/
def execAddBrLrClp32Do5 (s : State) : Result := addTo .br .lr .clp32 (.out 4) s

/-- `ADD(ACC,MR,CLP32,DO5)` (R198). -/
def execAddAccMrClp32Do5 (s : State) : Result := addTo .acc .mr .clp32 (.out 4) s

/-- `ADD(ACC,LR,CLP32,DO5)` (R200). -/
def execAddAccLrClp32Do5 (s : State) : Result := addTo .acc .lr .clp32 (.out 4) s

/-- `ADD(BR,MR,CLP32,DO8)` (R192). -/
def execAddBrMrClp32Do8 (s : State) : Result := addTo .br .mr .clp32 (.out 7) s

/-- `ADD(BR,LR,CLP32,DO8)` (R194). -/
def execAddBrLrClp32Do8 (s : State) : Result := addTo .br .lr .clp32 (.out 7) s

/-- `ADD(ACC,MR,CLP32,DO8)` (R198). -/
def execAddAccMrClp32Do8 (s : State) : Result := addTo .acc .mr .clp32 (.out 7) s

/-- `ADD(ACC,LR,CLP32,DO8)` (R200). -/
def execAddAccLrClp32Do8 (s : State) : Result := addTo .acc .lr .clp32 (.out 7) s

/-- `ADD(ACC,MR,NONE,MDB)` (R197). -/
def execAddAccMrNoneMdb (s : State) : Result := addTo .acc .mr .none .mdb s

/-- `CLRACC (ALU2)`: ACC <- 0^76; beside an ALU1 CLRACC it is no conflict (R190). -/
def execClraccAlu2 (s : State) : Result := .next (clearAccAgain s)

/-- `ADD(ACC,ZERO,NONE,L)` (R203). -/
def execAddAccZeroNoneL (s : State) : Result := addTo .acc .zero .none .l s

/-- `ADD(ACC,ZERO,NONE,MD)` (R203). -/
def execAddAccZeroNoneMd (s : State) : Result := addTo .acc .zero .none .md s

end Sys2Proof.Machine
end

