-- ==== Sys2Proof/Machine/Mop1.lean ====
section
/-! DEFINITION. The MOP1 operations, loads from DATA RAM (43_mop1.md R231 to R245). -/

namespace Sys2Proof.Machine

/-- `NOP (MOP1)`: no memory read (R231). -/
def execNopMop1 (s : State) : Result := .next s

/-- `LD(D_addr,MD)` (R236). -/
def execLdDataMd (a : Addr) (s : State) : Result := loadData a setMd s

/-- `LD(D_addr,B)` (R232). -/
def execLdDataB (a : Addr) (s : State) : Result := loadData a setB s

/-- `LD(D_addr,L)` (R233). -/
def execLdDataL (a : Addr) (s : State) : Result := loadData a setL s

/-- `LDC(D_addr,B)`: only if A_CP_B = 1 (R239, R237). -/
def execLdcDataB (a : Addr) (s : State) : Result := loadIf (condSet s.acpb) (loadData a setB) s

/-- `LDC(D_addr,L)`: only if A_CP_B = 1 (R240, R237). -/
def execLdcDataL (a : Addr) (s : State) : Result := loadIf (condSet s.acpb) (loadData a setL) s

/-- `LNC(D_addr,MD)`: only if A_CP_B = 0 (R244, R237). -/
def execLncDataMd (a : Addr) (s : State) : Result := loadIf (condClear s.acpb) (loadData a setMd) s

/-- `LNC(D_addr,B)`: only if A_CP_B = 0 (R242, R237). -/
def execLncDataB (a : Addr) (s : State) : Result := loadIf (condClear s.acpb) (loadData a setB) s

/-- `LNC(D_addr,L)`: only if A_CP_B = 0 (R243, R237). -/
def execLncDataL (a : Addr) (s : State) : Result := loadIf (condClear s.acpb) (loadData a setL) s

/-- `LDC(D_addr,MD)`: only if A_CP_B = 1 (R241, R237). -/
def execLdcDataMd (a : Addr) (s : State) : Result := loadIf (condSet s.acpb) (loadData a setMd) s

/-- `LD(D_addr,BL)` (R234). -/
def execLdDataBl (a : Addr) (s : State) : Result := loadData a setBl s

/-- `LD(D_addr,MC)` (R235). -/
def execLdDataMc (a : Addr) (s : State) : Result := loadData a (fun v => setMc (coefOfData v)) s

end Sys2Proof.Machine
end

