-- ==== Sys2Proof/Machine/Mop2.lean ====
section
/-! DEFINITION. The MOP2 operations, loads from COEF RAM (44_mop2.md R251 to R255). -/

namespace Sys2Proof.Machine

/-- `NOP (MOP2)`: no memory read (R251). -/
def execNopMop2 (s : State) : Result := .next s

/-- `LD(C_addr,MC)` (R252). -/
def execLdCoefMc (a : Addr) (s : State) : Result := loadCoef a setMc s

/-- `LDC(C_addr,MC)`: only if A_CP_B = 1 (R254, R237). -/
def execLdcCoefMc (a : Addr) (s : State) : Result := loadIf (condSet s.acpb) (loadCoef a setMc) s

/-- `LD(C_addr,L)` (R253). -/
def execLdCoefL (a : Addr) (s : State) : Result := loadCoef a (fun v => setL (dataOfCoef v)) s

/-- `LNC(C_addr,MC)`: only if A_CP_B = 0 (R255, R237). -/
def execLncCoefMc (a : Addr) (s : State) : Result := loadIf (condClear s.acpb) (loadCoef a setMc) s

end Sys2Proof.Machine
end

