-- ==== Sys2Proof/Machine/Mop3.lean ====
section
/-! DEFINITION. The MOP3 operations: stores, PCADDR, DLYPTR (45_mop3.md R266 to R286). -/

namespace Sys2Proof.Machine

/-- `NOP (MOP3)`: nothing is stored (R266). -/
def execNopMop3 (s : State) : Result := .next s

/-- `DLYPTR(ptr)`: the pointer goes to the delay memory with this word's DLYI (R280). -/
def execDlyptr (ptr : Addr) (s : State) : Result := .next (selectPointer ptr s)

/-- `PCADDR(label)`: changes nothing by itself; the label is the operand of the word's PC operation,
which carries it as its own target (R276, R160; log 24). -/
def execPcaddr (_label : Addr) (s : State) : Result := .next s

/-- `ST(MD,DATA,D_addr)` (R267). -/
def execStMdData (a : Addr) (s : State) : Result := storeData a s.md s

/-- `ST(B,DATA,D_addr)` (R268). -/
def execStBData (a : Addr) (s : State) : Result := storeData a s.b s

/-- `ST(L,DATA,D_addr)` (R269). -/
def execStLData (a : Addr) (s : State) : Result := storeData a s.l s

/-- `ST(DLYO,DATA,D_addr)` (R271). -/
def execStDlyoData (a : Addr) (s : State) : Result :=
  if delayReady s then storeData a s.dlyo s else .fault (.delayTooEarly s.dlyAge (siteOf s))

/-- `ST(DI,DATA,D_addr)` (R270). -/
def execStDiData (a : Addr) (s : State) : Result := storeData a (diSource a s) s

/-- `ST(MD,COEF,C_addr)` (R274). -/
def execStMdCoef (a : Addr) (s : State) : Result := storeCoef a s.md s

/-- `ST(B,COEF,C_addr)` (R273). -/
def execStBCoef (a : Addr) (s : State) : Result := storeCoef a s.b s

/-- `ST(L,COEF,C_addr)` (R275). -/
def execStLCoef (a : Addr) (s : State) : Result := storeCoef a s.l s

/-- `ST(VOL,DATA,D_addr)` (R272). -/
def execStVolData (a : Addr) (s : State) : Result := storeData a (volSource a s) s

end Sys2Proof.Machine
end

