-- ==== Sys2Proof/Machine/Pc.lean ====
section
/-! DEFINITION. The PC operations (41_pc_operations.md R160 to R166). The form of the word they
stand in is checked by `wordFault` of Machine/Clock.lean; the target's own check, R161(e), is theirs. -/

namespace Sys2Proof.Machine

/-- `JMP` to the label of the word's PCADDR (R163). -/
def execJmp (target : Addr) (s : State) : Result := branchIf true target s

/-- `BOC`: taken when A_CP_B of the state before the word is 1 (R164, R170). -/
def execBoc (target : Addr) (s : State) : Result := branchIf (condSet s.acpb) target s

/-- `BNC`: taken when A_CP_B of the state before the word is 0 (R165, R170). -/
def execBnc (target : Addr) (s : State) : Result := branchIf (condClear s.acpb) target s

/-- `STOP`: RUN becomes stopped when the pipe has drained (R166). -/
def execStop (s : State) : Result := .next (schedPipe none true s)

end Sys2Proof.Machine
end

