-- ==== Sys2Proof/Machine/Dispatch.lean ====
section
/-! DEFINITION. The meaning of every operation, one arm per constructor. An operation schedules its
writes (00_scope.md R12(b)); the clock that executes the word commits them (Machine/Clock.lean). -/

namespace Sys2Proof.Machine

def exec (i : Instr) (s : State) : Host.Outcome State Fault Refusal :=
  match i with
  | .nopAlu1 => Sys2Proof.Machine.execNopAlu1 s
  | .absB => Sys2Proof.Machine.execAbsB s
  | .negB => Sys2Proof.Machine.execNegB s
  | .negL => Sys2Proof.Machine.execNegL s
  | .log2 => Sys2Proof.Machine.execLog2 s
  | .alog2 => Sys2Proof.Machine.execAlog2 s
  | .shr1 => Sys2Proof.Machine.execShr1 s
  | .shr2 => Sys2Proof.Machine.execShr2 s
  | .shr3 => Sys2Proof.Machine.execShr3 s
  | .shr4 => Sys2Proof.Machine.execShr4 s
  | .shl1 => Sys2Proof.Machine.execShl1 s
  | .shl2 => Sys2Proof.Machine.execShl2 s
  | .shl3 => Sys2Proof.Machine.execShl3 s
  | .shl4 => Sys2Proof.Machine.execShl4 s
  | .absL => Sys2Proof.Machine.execAbsL s
  | .clraccAlu1 => Sys2Proof.Machine.execClraccAlu1 s
  | .thruB => Sys2Proof.Machine.execThruB s
  | .thruL => Sys2Proof.Machine.execThruL s
  | .shl20 => Sys2Proof.Machine.execShl20 s
  | .jmp target => Sys2Proof.Machine.execJmp target s
  | .boc target => Sys2Proof.Machine.execBoc target s
  | .bnc target => Sys2Proof.Machine.execBnc target s
  | .stop => Sys2Proof.Machine.execStop s
  | .nopAlu2 => Sys2Proof.Machine.execNopAlu2 s
  | .addBrMrNoneMd => Sys2Proof.Machine.execAddBrMrNoneMd s
  | .addBrMrNoneB => Sys2Proof.Machine.execAddBrMrNoneB s
  | .addBrMrNoneL => Sys2Proof.Machine.execAddBrMrNoneL s
  | .addBrMrNoneMc => Sys2Proof.Machine.execAddBrMrNoneMc s
  | .addBrMrNoneAcc => Sys2Proof.Machine.execAddBrMrNoneAcc s
  | .addBrMrNoneDlyi => Sys2Proof.Machine.execAddBrMrNoneDlyi s
  | .compBrMr => Sys2Proof.Machine.execCompBrMr s
  | .addBrLrNoneMd => Sys2Proof.Machine.execAddBrLrNoneMd s
  | .addBrLrNoneB => Sys2Proof.Machine.execAddBrLrNoneB s
  | .addBrLrNoneL => Sys2Proof.Machine.execAddBrLrNoneL s
  | .addBrLrNoneMc => Sys2Proof.Machine.execAddBrLrNoneMc s
  | .addBrLrNoneDlyi => Sys2Proof.Machine.execAddBrLrNoneDlyi s
  | .compBrLr => Sys2Proof.Machine.execCompBrLr s
  | .addAccMrNoneMd => Sys2Proof.Machine.execAddAccMrNoneMd s
  | .addAccMrNoneB => Sys2Proof.Machine.execAddAccMrNoneB s
  | .addAccMrNoneL => Sys2Proof.Machine.execAddAccMrNoneL s
  | .addAccMrNoneMc => Sys2Proof.Machine.execAddAccMrNoneMc s
  | .addAccMrNoneAcc => Sys2Proof.Machine.execAddAccMrNoneAcc s
  | .addAccMrNoneDlyi => Sys2Proof.Machine.execAddAccMrNoneDlyi s
  | .compAccMr => Sys2Proof.Machine.execCompAccMr s
  | .addAccLrNoneMd => Sys2Proof.Machine.execAddAccLrNoneMd s
  | .addAccLrNoneB => Sys2Proof.Machine.execAddAccLrNoneB s
  | .addAccLrNoneL => Sys2Proof.Machine.execAddAccLrNoneL s
  | .addAccLrNoneMc => Sys2Proof.Machine.execAddAccLrNoneMc s
  | .addAccLrNoneAcc => Sys2Proof.Machine.execAddAccLrNoneAcc s
  | .addAccLrNoneDlyi => Sys2Proof.Machine.execAddAccLrNoneDlyi s
  | .compAccLr => Sys2Proof.Machine.execCompAccLr s
  | .addBrMrClp32Do4 => Sys2Proof.Machine.execAddBrMrClp32Do4 s
  | .addBrMrClp32Do1 => Sys2Proof.Machine.execAddBrMrClp32Do1 s
  | .addBrMrClp32Do2 => Sys2Proof.Machine.execAddBrMrClp32Do2 s
  | .addBrMrClp32Do3 => Sys2Proof.Machine.execAddBrMrClp32Do3 s
  | .addBrLrClp32Do1 => Sys2Proof.Machine.execAddBrLrClp32Do1 s
  | .addBrLrClp32Do2 => Sys2Proof.Machine.execAddBrLrClp32Do2 s
  | .addBrLrClp32Do3 => Sys2Proof.Machine.execAddBrLrClp32Do3 s
  | .addBrLrClp32Do4 => Sys2Proof.Machine.execAddBrLrClp32Do4 s
  | .addAccMrClp32Do1 => Sys2Proof.Machine.execAddAccMrClp32Do1 s
  | .addAccMrClp32Do2 => Sys2Proof.Machine.execAddAccMrClp32Do2 s
  | .addAccMrClp32Do3 => Sys2Proof.Machine.execAddAccMrClp32Do3 s
  | .addAccMrClp32Do4 => Sys2Proof.Machine.execAddAccMrClp32Do4 s
  | .addAccLrClp32Do1 => Sys2Proof.Machine.execAddAccLrClp32Do1 s
  | .addAccLrClp32Do2 => Sys2Proof.Machine.execAddAccLrClp32Do2 s
  | .addAccLrClp32Do3 => Sys2Proof.Machine.execAddAccLrClp32Do3 s
  | .addAccLrClp32Do4 => Sys2Proof.Machine.execAddAccLrClp32Do4 s
  | .addAccZeroNoneB => Sys2Proof.Machine.execAddAccZeroNoneB s
  | .addBrZeroNoneMd => Sys2Proof.Machine.execAddBrZeroNoneMd s
  | .addBrZeroNoneB => Sys2Proof.Machine.execAddBrZeroNoneB s
  | .addBrZeroNoneL => Sys2Proof.Machine.execAddBrZeroNoneL s
  | .addBrZeroNoneMc => Sys2Proof.Machine.execAddBrZeroNoneMc s
  | .addBrZeroClp32B => Sys2Proof.Machine.execAddBrZeroClp32B s
  | .addBrMrClp32Do6 => Sys2Proof.Machine.execAddBrMrClp32Do6 s
  | .addBrMrClp32Do7 => Sys2Proof.Machine.execAddBrMrClp32Do7 s
  | .addBrLrClp32Do6 => Sys2Proof.Machine.execAddBrLrClp32Do6 s
  | .addBrLrClp32Do7 => Sys2Proof.Machine.execAddBrLrClp32Do7 s
  | .addAccMrClp32Do6 => Sys2Proof.Machine.execAddAccMrClp32Do6 s
  | .addAccMrClp32Do7 => Sys2Proof.Machine.execAddAccMrClp32Do7 s
  | .addAccLrClp32Do6 => Sys2Proof.Machine.execAddAccLrClp32Do6 s
  | .addAccLrClp32Do7 => Sys2Proof.Machine.execAddAccLrClp32Do7 s
  | .addAccZeroClp28Mc => Sys2Proof.Machine.execAddAccZeroClp28Mc s
  | .addAccZeroClp28B => Sys2Proof.Machine.execAddAccZeroClp28B s
  | .addAccZeroClp28L => Sys2Proof.Machine.execAddAccZeroClp28L s
  | .addBrMrClp32Do5 => Sys2Proof.Machine.execAddBrMrClp32Do5 s
  | .addBrLrClp32Do5 => Sys2Proof.Machine.execAddBrLrClp32Do5 s
  | .addAccMrClp32Do5 => Sys2Proof.Machine.execAddAccMrClp32Do5 s
  | .addAccLrClp32Do5 => Sys2Proof.Machine.execAddAccLrClp32Do5 s
  | .addBrMrClp32Do8 => Sys2Proof.Machine.execAddBrMrClp32Do8 s
  | .addBrLrClp32Do8 => Sys2Proof.Machine.execAddBrLrClp32Do8 s
  | .addAccMrClp32Do8 => Sys2Proof.Machine.execAddAccMrClp32Do8 s
  | .addAccLrClp32Do8 => Sys2Proof.Machine.execAddAccLrClp32Do8 s
  | .addAccMrNoneMdb => Sys2Proof.Machine.execAddAccMrNoneMdb s
  | .clraccAlu2 => Sys2Proof.Machine.execClraccAlu2 s
  | .addAccZeroNoneL => Sys2Proof.Machine.execAddAccZeroNoneL s
  | .addAccZeroNoneMd => Sys2Proof.Machine.execAddAccZeroNoneMd s
  | .nopMop1 => Sys2Proof.Machine.execNopMop1 s
  | .ldDataMd a => Sys2Proof.Machine.execLdDataMd a s
  | .ldDataB a => Sys2Proof.Machine.execLdDataB a s
  | .ldDataL a => Sys2Proof.Machine.execLdDataL a s
  | .ldcDataB a => Sys2Proof.Machine.execLdcDataB a s
  | .ldcDataL a => Sys2Proof.Machine.execLdcDataL a s
  | .lncDataMd a => Sys2Proof.Machine.execLncDataMd a s
  | .lncDataB a => Sys2Proof.Machine.execLncDataB a s
  | .lncDataL a => Sys2Proof.Machine.execLncDataL a s
  | .ldcDataMd a => Sys2Proof.Machine.execLdcDataMd a s
  | .ldDataBl a => Sys2Proof.Machine.execLdDataBl a s
  | .ldDataMc a => Sys2Proof.Machine.execLdDataMc a s
  | .nopMop2 => Sys2Proof.Machine.execNopMop2 s
  | .ldCoefMc a => Sys2Proof.Machine.execLdCoefMc a s
  | .ldcCoefMc a => Sys2Proof.Machine.execLdcCoefMc a s
  | .ldCoefL a => Sys2Proof.Machine.execLdCoefL a s
  | .lncCoefMc a => Sys2Proof.Machine.execLncCoefMc a s
  | .nopMop3 => Sys2Proof.Machine.execNopMop3 s
  | .dlyptr ptr => Sys2Proof.Machine.execDlyptr ptr s
  | .pcaddr label => Sys2Proof.Machine.execPcaddr label s
  | .stMdData a => Sys2Proof.Machine.execStMdData a s
  | .stBData a => Sys2Proof.Machine.execStBData a s
  | .stLData a => Sys2Proof.Machine.execStLData a s
  | .stDlyoData a => Sys2Proof.Machine.execStDlyoData a s
  | .stDiData a => Sys2Proof.Machine.execStDiData a s
  | .stMdCoef a => Sys2Proof.Machine.execStMdCoef a s
  | .stBCoef a => Sys2Proof.Machine.execStBCoef a s
  | .stLCoef a => Sys2Proof.Machine.execStLCoef a s
  | .stVolData a => Sys2Proof.Machine.execStVolData a s

end Sys2Proof.Machine
end

