-- ==== Sys2Proof/Machine/Clock.lean ====
section
/-! DEFINITION. One clock of the machine around the meanings of the five operations: the fetch, the
checks that look at the whole word (60_exceptions.md R306), the commit of the scheduled writes
(00_scope.md R12(b)), the hidden pipelines (10_state.md R40 to R44), what goes on while stopped, and
the frame restart (60_exceptions.md R303). -/

namespace Sys2Proof.Machine

/-! ### Fetch -/

/-- `Fetch(pc)` (20_memory.md R78, 41_pc_operations.md R168): past the end it faults, and so does a
word the harness has not supplied (70_reset_and_hazards.md R342). -/
def fetch (s : State) : Except Fault InsnBits :=
  if s.cfg.imemWords ≤ s.pc then .error (.pcOutOfRange (siteOf s))
  else
    match Memory.read s.imem s.pc with
    | none => .error (.unwrittenRead (.instr s.pc) (siteOf s))
    | some bits => .ok bits

/-! ### Checks of the whole word, in the order of R306 -/

/-- R306 (4) to (7): the pipe after a PC operation (R162), the form of a PC operation (R161(a) to
(d)), the bus conflict (R238), the missing delay pointer (R283). A DLYPTR that acts as NOP counts as
NOP (R280). -/
def wordFault (w : InsnWord) (s : State) : Option Fault :=
  if s.pipe.isSome && acting w != .nops then some (.pipeNotClear (siteOf s))
  else if pcFormBad w then some (.pcOpMalformed (siteOf s))
  else if busConflict w then some (.busConflict (siteOf s))
  else if delayPointerMissing w then some (.delayPointerMissing (siteOf s))
  else none

/-- The DATA address a MOP1 operation reads, none for NOP and for a conditional load whose condition
is false (R237). -/
def mop1Reads (acpb : Bool) : Instr → Option Addr
  | .ldDataMd a | .ldDataB a | .ldDataL a | .ldDataBl a | .ldDataMc a => some a
  | .ldcDataB a | .ldcDataL a | .ldcDataMd a => if condSet acpb then some a else none
  | .lncDataMd a | .lncDataB a | .lncDataL a => if condClear acpb then some a else none
  | _ => none

/-- The COEF address a MOP2 operation reads. -/
def mop2Reads (acpb : Bool) : Instr → Option Addr
  | .ldCoefMc a | .ldCoefL a => some a
  | .ldcCoefMc a => if condSet acpb then some a else none
  | .lncCoefMc a => if condClear acpb then some a else none
  | _ => none

/-- A DATA word that carries the mark unwritten (R48): implemented, not special, nothing written. -/
def dataUnwritten (a : Addr) (s : State) : Bool :=
  a != lfsrAddr && a != seedAddr && a != pcStartAddr && a != dreg0Addr &&
  decide (a.toNat < s.cfg.dataWords) && (Memory.read s.data a.toNat).isNone

/-- A COEF word that carries the mark unwritten. -/
def coefUnwritten (a : Addr) (s : State) : Bool :=
  decide (a.toNat < s.cfg.coefWords) && (Memory.read s.coef a.toNat).isNone

/-- R306 (8): the first load, in field order, that names an unwritten word (log 16). -/
def unwrittenFault (w : InsnWord) (s : State) : Option Fault :=
  match (mop1Reads s.acpb w.mop1).filter (dataUnwritten · s) with
  | some a => some (.unwrittenRead (.data a.toNat) (siteOf s))
  | none =>
    match (mop2Reads s.acpb w.mop2).filter (coefUnwritten · s) with
    | some a => some (.unwrittenRead (.coef a.toNat) (siteOf s))
    | none => none

/-! ### Issue and commit -/

/-- The address a MOP3 operation stores to, with its space (R83). -/
def storeTarget : Instr → Option (Space × Addr)
  | .stMdData a | .stBData a | .stLData a | .stDlyoData a | .stDiData a | .stVolData a =>
    some (.data, a)
  | .stMdCoef a | .stBCoef a | .stLCoef a => some (.coef, a)
  | _ => none

/-- The state the five operations of a word see: nothing scheduled, the word's store announced. -/
def issue (w : InsnWord) (s : State) : State :=
  { s with sched := { Sched.empty with storeTo := storeTarget w.mop3 } }

/-- DLY_AGE in the next clock: the clock after a DLYI write is number 1 (R43, R280, R285;
log 23). -/
def nextDlyAge (s : State) : Option Nat :=
  if s.sched.dlyi.isSome then some 1 else s.dlyAge.map (· + 1)

/-- What the delay memory has taken after this clock: a DLYI write hands it the value with the
pointer of the word's DLYPTR (R280, R316). -/
def nextDelayLog (s : State) : List (Addr × Data) :=
  match s.sched.dlyi with
  | none => s.delayLog
  | some v => (s.sched.dlyPtr.getD s.dlyPtr, v) :: s.delayLog

/-- DLYO in the next clock: the delay memory gives its word DLY_LATENCY clocks after the DLYI write
(R316; log 13). -/
def nextDlyo (s : State) : Data :=
  if nextDlyAge s = some dlyLatency then Config.delayOut (nextDelayLog s) s.now else s.dlyo

/-- The VUB's own registers among the host's: nothing else of the host's reaches VOL (R51, R312;
the mode bits act on nothing, R55, 93_implementation_defined.md U42). -/
def vubRegs (e : Esfr) : VubRegs where
  mode := e.volMode
  index := e.volIndex
  data0 := e.volData0
  data1 := e.volData1
  data2 := e.volData2
  data3 := e.volData3

/-- VOL in the next clock: the VUB may change it between any two clocks (R313; log 11).
Irreducible, as nothing is to be computed from a free value. -/
@[irreducible] def nextVol (s : State) : Vector Data 24 :=
  Vector.ofFn fun i => Config.vubValue (vubRegs s.esfr) s.vol[i] s.now i

/-- LAST_STORE after a store (R81). -/
def storeAddress : StoreReq → Space × Addr
  | .data a _ => (.data, a)
  | .coef a _ => (.coef, a)
  | .dreg0 _ => (.data, dreg0Addr)

/-- DATA RAM after the scheduled store (R81). -/
def nextData (s : State) : List (Nat × Data) :=
  match s.sched.store with
  | some (.data a v) => Memory.write s.data a.toNat v
  | _ => s.data

/-- COEF RAM after the scheduled store (R81). -/
def nextCoef (s : State) : List (Nat × Coef) :=
  match s.sched.store with
  | some (.coef a v) => Memory.write s.coef a.toNat v
  | _ => s.coef

/-- DREG0 after the scheduled store (R286). -/
def nextDreg0 (s : State) : Data :=
  match s.sched.store with
  | some (.dreg0 v) => v
  | _ => s.dreg0

/-- The pipe's last word passes in this clock (R162). -/
def pipeDrains (s : State) : Bool :=
  match s.pipe with
  | none => false
  | some p => decide (p.remaining ≤ 1)

/-- The PC in the next clock: the target of a taken branch when its pipe drains, else the next
address (R31, R169). -/
def nextPc (s : State) : Nat :=
  match s.pipe with
  | none => s.pc + 1
  | some p =>
    if p.remaining ≤ 1 then
      match p.target with
      | some t => t.toNat
      | none => s.pc + 1
    else s.pc + 1

/-- PIPE in the next clock (R162). -/
def nextPipe (s : State) : Option Pipe :=
  match s.pipe with
  | none => s.sched.pipe
  | some p => if p.remaining ≤ 1 then none else some { p with remaining := p.remaining - 1 }

/-- RUN in the next clock: a STOP takes effect when its pipe drains (R166). -/
def nextRun (s : State) : RunState :=
  match s.pipe with
  | none => s.run
  | some p => if p.remaining ≤ 1 ∧ p.stop then .stopped else s.run

/-- The state at the start of the next clock: every scheduled write lands together (R12(b)), the
multiplier's product of MD and MC of this clock lands in MR (R27, R180), the compare pipeline (R40),
LAST_STORE (R41), the pipe (R42), DLY_AGE (R43) and the other agents move on. -/
def settle (s : State) : State :=
  { s with
    b := s.sched.b.getD s.b
    l := s.sched.l.getD s.l
    md := s.sched.md.getD s.md
    mc := s.sched.mc.getD s.mc
    br := s.sched.br.getD s.br
    lr := s.sched.lr.getD s.lr
    mr := product s.md s.mc
    acc := s.sched.acc.getD s.acc
    pc := nextPc s
    acpb := s.pend.getD s.acpb
    outs := match s.sched.out with
      | none => s.outs
      | some (k, v) => s.outs.set k v
    vol := nextVol s
    lfs := Config.lfsrNext s.lfsrSeed s.lfs s.now
    dlyi := s.sched.dlyi.getD s.dlyi
    dlyo := nextDlyo s
    dlyPtr := if s.sched.dlyi.isSome then s.sched.dlyPtr.getD s.dlyPtr else s.dlyPtr
    pend := s.sched.pend
    lastStore := s.sched.store.map storeAddress
    pipe := nextPipe s
    dlyAge := nextDlyAge s
    run := nextRun s
    data := nextData s
    coef := nextCoef s
    delayLog := nextDelayLog s
    dreg0 := nextDreg0 s
    frameClock := s.frameClock + 1
    now := s.now + 1
    sched := Sched.empty }

/-- The end of a clock: two fields that wrote one register fault (R47), else the writes land. -/
def endOfClock (s : State) : Result :=
  match s.sched.conflict with
  | some r => .fault (.writeConflict r (siteOf s))
  | none => .next (settle s)

/-- A clock while stopped: no word executes and the DSP writes nothing (R44); time, VOL, the LFSR
and the delay memory go on (log 31). -/
def idleClock (s : State) : State :=
  { s with
    vol := nextVol s
    lfs := Config.lfsrNext s.lfsrSeed s.lfs s.now
    dlyo := if s.dlyAge = some 12 then Config.delayOut s.delayLog s.now else s.dlyo
    lastStore := none
    dlyAge := s.dlyAge.map (· + 1)
    frameClock := s.frameClock + 1
    now := s.now + 1
    sched := Sched.empty }

/-! ### The frame sequencer -/

/-- What the frame sequencer does before the first frame and between two frames (R303, R326, R340).
The registers it leaves without a stated value become free values (R48; log 9). -/
def frameRestart (s : State) : State :=
  { s with
    pc := 0
    run := .running
    pipe := none
    lastStore := none
    pend := none
    b := Config.restartData 0 s.b s.now
    l := Config.restartData 1 s.l s.now
    md := Config.restartData 2 s.md s.now
    br := Config.restartData 3 s.br s.now
    lr := Config.restartData 4 s.lr s.now
    mc := Config.restartCoef s.mc s.now
    mr := Config.restartAcc 0 s.mr s.now
    acc := Config.restartAcc 1 s.acc s.now
    acpb := Config.restartFlag s.acpb s.now
    di := Vector.ofFn fun k => Config.diSample s.now k
    dlyAge := none
    frameClock := 0
    frame := s.frame + 1
    sched := Sched.empty }

/-- A frame boundary (R303, R304): the restart, or an overrun when the program has not stopped. -/
def frameBoundary (s : State) : Result :=
  if s.run = .stopped ∧ s.pipe = none then .next (frameRestart s)
  else .fault (.frameOverrun (siteOf s))

end Sys2Proof.Machine
end

