-- ==== Sys2Proof/Machine/HostPort.lean ====
section
/-! DEFINITION. What the host can do to the machine (60_exceptions.md R320; 20_memory.md R86, R87,
R90; 10_state.md R50 to R58). -/

namespace Sys2Proof.Machine

/-! ### The host's registers -/

/-- A write of an "Out" ESFR (R51, R53 to R56). DESIGN CHOICE: a register narrower than eight bits
takes the low bits of the byte, each mode bit bit 0; the spec gives the widths and no place in the
byte (R51, R53 to R55; log 34). -/
def esfrWrite (r : EsfrName) (v : BitVec 8) (e : Esfr) : Esfr :=
  match r with
  | .a6 => { e with volMode := v.setWidth 2 }
  | .a7 => { e with volIndex := v.setWidth 3 }
  | .a9 => { e with volData0 := v }
  | .aa => { e with volData1 := v }
  | .ab => { e with volData2 := v }
  | .ac => { e with volData3 := v.setWidth 4 }
  | .b3 => { e with toDsp0 := v }
  | .b4 => { e with toDsp1 := v }
  | .b5 => { e with toDsp2 := v }
  | .b6 => { e with toDsp3 := v }
  | .b7 => { e with toDsp4 := v }
  | .b9 => { e with toDsp5 := v }
  | .ba => { e with toDsp6 := v.setWidth 6 }
  | .bb => { e with addrLo := v }
  | .bc => { e with addrHi := v.setWidth 6 }
  | .bd => { e with mode0 := v.getLsbD 0 }
  | .be => { e with mode3 := v.getLsbD 0 }
  | .bf => { e with mode4 := v.getLsbD 0 }
  | .c1 => { e with mode5 := v.getLsbD 0 }

/-- The bits of its byte that an ESFR holds: as many as R51, R53, R54 and R55 give it, the low ones,
DESIGN CHOICE (log 34). -/
def esfrMask : EsfrName → BitVec 8
  | .a6 => 0x03
  | .a7 => 0x07
  | .ac => 0x0F
  | .ba | .bc => 0x3F
  | .bd | .be | .bf | .c1 => 0x01
  | .a9 | .aa | .ab | .b3 | .b4 | .b5 | .b6 | .b7 | .b9 | .bb => 0xFF

/-- What an ESFR holds, in the low bits of a byte (log 34). -/
def esfrHeld (r : EsfrName) (e : Esfr) : BitVec 8 :=
  match r with
  | .a6 => e.volMode.setWidth 8
  | .a7 => e.volIndex.setWidth 8
  | .a9 => e.volData0
  | .aa => e.volData1
  | .ab => e.volData2
  | .ac => e.volData3.setWidth 8
  | .b3 => e.toDsp0
  | .b4 => e.toDsp1
  | .b5 => e.toDsp2
  | .b6 => e.toDsp3
  | .b7 => e.toDsp4
  | .b9 => e.toDsp5
  | .ba => e.toDsp6.setWidth 8
  | .bb => e.addrLo
  | .bc => e.addrHi.setWidth 8
  | .bd => (BitVec.ofBool e.mode0).setWidth 8
  | .be => (BitVec.ofBool e.mode3).setWidth 8
  | .bf => (BitVec.ofBool e.mode4).setWidth 8
  | .c1 => (BitVec.ofBool e.mode5).setWidth 8

/-- What the host reads back of an "Out" ESFR (R55, R56): the bits it holds. DESIGN CHOICE: the spec
does not say what the other bits of the byte read as; they are free (log 34). -/
def esfrRead (r : EsfrName) (s : State) : BitVec 8 :=
  (esfrHeld r s.esfr &&& esfrMask r) ||| (Config.esfrSpare r s.now &&& ~~~ esfrMask r)

/-- `Data_to_DSP_o`, 54 bits (R53). -/
def dataToDsp (e : Esfr) : BitVec 54 :=
  e.toDsp6 ++ e.toDsp5 ++ e.toDsp4 ++ e.toDsp3 ++ e.toDsp2 ++ e.toDsp1 ++ e.toDsp0

/-- The 48-bit DATA word on `Data_to_DSP_o`: its low bits (R53). -/
def busData (e : Esfr) : Data := (dataToDsp e).setWidth 48

/-- The 28-bit COEF word on `Data_to_DSP_o`: its low bits (R53). -/
def busCoef (e : Esfr) : Coef := (dataToDsp e).setWidth 28

/-- `micro_addr_o`, 14 bits (R54). -/
def microAddr (e : Esfr) : BitVec 14 := e.addrHi ++ e.addrLo

/-- The byte lanes of `To_micro_i`, ESFRs AD, AE, AF, B1, B2, D6 and D7 as 0 to 6: what the bus
carries at the moment of the read (R52; log 28). DESIGN CHOICE: the six bits of the bus stand in the
low bits of D7, and its two top bits, which carry none, are free (log 34). -/
def toMicroLane (lane : Fin 7) (s : State) : BitVec 8 :=
  (Config.toMicroSpare s.now ++ Config.toMicro s.now : BitVec 56).extractLsb' (8 * lane) 8

/-! ### Memory -/

/-- HostWrite(DATA, a, v) (R86): the LFSR seed, PC START, or a DATA word, whole, under the latency
of a DSP store. DESIGN CHOICE: DREG0, the LFSR and a word past the end are refused, since the spec
gives the host's write of them no outcome (R57, R301; log 19). -/
def hostWriteData (a : Addr) (v : Data) (s : State) : Result :=
  if a = seedAddr then .next { s with lfsrSeed := v }
  else if a = pcStartAddr then .next { s with pcStart := v }
  else if a = dreg0Addr ∨ a = lfsrAddr ∨ s.cfg.dataWords ≤ a.toNat then
    .refused (.hostWriteNotDescribed .data a)
  else .next { s with data := Memory.write s.data a.toNat v, lastStore := some (.data, a) }

/-- HostWrite(COEF, a, v) (R86). DESIGN CHOICE: a word past the end is refused (log 19). -/
def hostWriteCoef (a : Addr) (v : Coef) (s : State) : Result :=
  if s.cfg.coefWords ≤ a.toNat then .refused (.hostWriteNotDescribed .coef a)
  else .next { s with coef := Memory.write s.coef a.toNat v, lastStore := some (.coef, a) }

/-- The word leaves the write port to the host: its MOP3 code is 0000, that is NOP, DLYPTR, or
PCADDR where that is its code (R86, R266, R276, R280). -/
def portFree (cfg : Config) (mop3 : Instr) : Bool :=
  match mop3 with
  | .nopMop3 => true
  | .dlyptr _ => true
  | .pcaddr _ => cfg.pcaddrCode == 0#4
  | _ => false

/-- The host's turn after a clock: it takes at most one waiting action; a memory write waits until
the write port is free, and the word that then stands on `Data_to_DSP_o` is written (R53, R86, R320;
log 18). -/
def hostTurn (free : Bool) (s : State) : Result :=
  match s.hostQueue with
  | [] => .next s
  | .writeEsfr r v :: rest => .next { s with esfr := esfrWrite r v s.esfr, hostQueue := rest }
  | .writeData a :: rest =>
    if free then hostWriteData a (busData s.esfr) { s with hostQueue := rest } else .next s
  | .writeCoef a :: rest =>
    if free then hostWriteCoef a (busCoef s.esfr) { s with hostQueue := rest } else .next s

/-- HostRead(DATA, a) between two clocks (R87, R320(b)): `none` for an unwritten or absent word. -/
def hostReadData (a : Addr) (s : State) : Option Data :=
  if a = lfsrAddr then some s.lfs
  else if a = seedAddr then some s.lfsrSeed
  else if a = pcStartAddr then some s.pcStart
  else if a = dreg0Addr then some s.dreg0
  else Memory.read s.data a.toNat

/-- HostRead(COEF, a). -/
def hostReadCoef (a : Addr) (s : State) : Option Coef := Memory.read s.coef a.toNat

/-- The host's write of an instruction word, before the first frame only (R90, R320(c)). DESIGN
CHOICE: at IMEM_WORDS or above, where there is no word and of which the spec says nothing, it is
refused (log 20). -/
def hostWriteInstr (a : Nat) (bits : InsnBits) (s : State) : Result :=
  if s.frame ≠ 0 then .refused .hostProgramWriteWhileRunning
  else if s.cfg.imemWords ≤ a then .refused (.hostProgramNoSuchWord a)
  else .next { s with imem := Memory.write s.imem a bits }

/-- An instruction word where the next step fetches, in a state whose next step fetches: the load
of a program from outside (70_reset_and_hazards.md R342; log 21). -/
def loadForFetch (bits : InsnBits) (s : State) : State :=
  let pc := if s.pc < s.cfg.imemWords then s.pc else 0
  { s with
    pc := pc
    imem := Memory.write s.imem pc bits
    run := .running
    pipe := none
    frameClock := if s.frameClock < s.cfg.cyclesPerFrame then s.frameClock else 0 }

/-! ### I2C forms (R58) -/

/-- The 28-bit coefficient in a 32-bit I2C word. -/
def i2cCoefficient (word : BitVec 32) : Coef := word.setWidth 28

/-- A coefficient as a 32-bit I2C word, its top hexadecimal digit zero. -/
def i2cWord (c : Coef) : BitVec 32 := c.setWidth 32

/-- The slave address byte from the pin CS0 and the read bit: `0110 10`, CS0, R/W. -/
def i2cAddress (cs0 read : Bool) : BitVec 8 := 0b011010#6 ++ BitVec.ofBool cs0 ++ BitVec.ofBool read

end Sys2Proof.Machine
end

