-- ==== Sys2Proof/Machine/Issue.lean ====
section
/-! DEFINITION. One instruction word in one clock (00_scope.md R12), and what the machine does next:
a word, an idle clock, or the frame boundary (60_exceptions.md R326). -/

namespace Sys2Proof.Machine

/-- The five operations in field order (R306); each reads the state before the word. -/
def execFields (w : InsnWord) (s : State) : Result :=
  andThen (exec w.alu1 s) fun s1 =>
  andThen (exec w.alu2 s1) fun s2 =>
  andThen (exec w.mop1 s2) fun s3 =>
  andThen (exec w.mop2 s3) fun s4 =>
  exec w.mop3 s4

/-- An instruction word: the checks of the whole word, its operations, the end of the clock. -/
def execWord (w : InsnWord) (s : State) : Result :=
  match wordFault w s with
  | some f => .fault f
  | none =>
    match unwrittenFault w s with
    | some f => .fault f
    | none => andThen (execFields w (issue w s)) endOfClock

/-- The word at the PC, decoded (R78, R110, R115). -/
def fetchDecode (s : State) : Except Fault InsnWord :=
  match fetch s with
  | .error f => .error f
  | .ok bits =>
    match decode s.cfg bits with
    | .error (field, code) => .error (.illegalEncoding field code (siteOf s))
    | .ok w => .ok w

/-- A clock of the running machine: the word at the PC, then the host's turn (R86). -/
def runClock (s : State) : Result :=
  match fetchDecode s with
  | .error f => .fault f
  | .ok w => andThen (execWord w s) (hostTurn (portFree s.cfg w.mop3))

/-- What happens next (R306(1), R326): at the end of a frame the boundary, else a clock. -/
def advance (s : State) : Result :=
  if s.cfg.cyclesPerFrame ≤ s.frameClock then frameBoundary s
  else
    match s.run with
    | .stopped => hostTurn true (idleClock s)
    | .running => runClock s

end Sys2Proof.Machine
end

