-- ==== Sys2Proof/Machine/Step.lean ====
section
/-! DEFINITION. The machine's step, and how an instruction comes to stand where the next step
fetches. -/

namespace Sys2Proof.Machine

/-- One step: one clock of the DSP, or the frame restart at the start of a frame (00_scope.md R12;
60_exceptions.md R303, R326). -/
def step (s : State) : Host.Outcome State Fault Refusal := advance s

/-- The instruction whose bits are `w`, in one 54-bit word (30_encoding.md R100), where the next
step fetches it. -/
def State.withFetchWord (s : State) (nbits w : Nat) : State :=
  loadForFetch (BitVec.ofNat 54 (w % 2 ^ nbits)) s

end Sys2Proof.Machine
end

