-- ==== Sys2Proof/Safety.lean ====
section
/-! DEFINITION. What the statements about the machine are said in: the adder in exact integers, when
a load or a store of a word goes through, words that hold one operation, the clock of a word that
does nothing, and the invariant that every step keeps. -/

namespace Sys2Proof.Machine

/-! ### The adder in integers (42_alu2.md R181 to R188) -/

/-- Operand A as an integer in units of 2^-46 (R181, R183). -/
def intA (a : OperandA) (s : State) : Int :=
  match a with
  | .acc => s.acc.toInt
  | .br => s.br.toInt * 2 ^ 23

/-- Operand B as an integer in units of 2^-46 (R182, R183, R29). -/
def intB (b : OperandB) (s : State) : Int :=
  match b with
  | .mr => s.mr.toInt
  | .lr => s.lr.toInt * 2 ^ 23
  | .zero => 0

/-- The sum as a 76-bit two's complement integer: a carry out of bit 75 is lost (R188). -/
def wrappedSum (a : OperandA) (b : OperandB) (s : State) : Int :=
  (intA a s + intB b s).bmod (2 ^ 76)

/-- The sum in units of 2^-23, rounded toward zero (R184). -/
def truncatedSum (a : OperandA) (b : OperandB) (s : State) : Int :=
  (wrappedSum a b s).tdiv (2 ^ 23)

/-- The sum saturated to `n` bits (R184 with 48, R185 with 32 or 40, R186 with 28). -/
def saturatedSum (n : Nat) (a : OperandA) (b : OperandB) (s : State) : Int :=
  satInt n (truncatedSum a b s)

/-- The compare flag: Table 15, the six rules, on the operands as integers (R216). -/
def sixRules (x y : Int) : Bool :=
  if 0 ≤ x ∧ 0 ≤ y then false
  else if x < 0 ∧ y < 0 then true
  else if x.natAbs = y.natAbs then decide (y < 0)
  else decide (y.natAbs < x.natAbs)

/-! ### Loads and stores that go through (20_memory.md R80, R81) -/

/-- A DATA address that is none of the four special locations (10_state.md R57). -/
def plainAddr (a : Addr) : Prop := a ≠ 0x301 ∧ a ≠ 0x2BC ∧ a ≠ 0x2BD ∧ a ≠ 0x2BE

/-- DATA word `a` holds `v` and may be loaded: an implemented plain address, not stored to by the
word before or by the same word (R80, R82, R83). -/
def DataLoadable (a : Addr) (v : Data) (s : State) : Prop :=
  plainAddr a ∧ a.toNat < s.cfg.dataWords ∧ s.lastStore ≠ some (.data, a) ∧
  s.sched.storeTo ≠ some (.data, a) ∧ Memory.read s.data a.toNat = some v

/-- COEF word `a` holds `v` and may be loaded. -/
def CoefLoadable (a : Addr) (v : Coef) (s : State) : Prop :=
  a.toNat < s.cfg.coefWords ∧ s.lastStore ≠ some (.coef, a) ∧
  s.sched.storeTo ≠ some (.coef, a) ∧ Memory.read s.coef a.toNat = some v

/-- DATA address `a` may be stored to (R81). -/
def DataStorable (a : Addr) (s : State) : Prop := plainAddr a ∧ a.toNat < s.cfg.dataWords

/-! ### Words with one operation, and the clock around them -/

/-- A word whose ALU1 is `i` and whose other fields are NOP. -/
def wordAlu1 (i : Instr) : InsnWord := ⟨i, .nopAlu2, .nopMop1, .nopMop2, .nopMop3⟩

/-- A word whose ALU2 is `i` and whose other fields are NOP. -/
def wordAlu2 (i : Instr) : InsnWord := ⟨.nopAlu1, i, .nopMop1, .nopMop2, .nopMop3⟩

/-- A word whose MOP1 is `i` and whose other fields are NOP. -/
def wordMop1 (i : Instr) : InsnWord := ⟨.nopAlu1, .nopAlu2, i, .nopMop2, .nopMop3⟩

/-- A word whose MOP2 is `i` and whose other fields are NOP. -/
def wordMop2 (i : Instr) : InsnWord := ⟨.nopAlu1, .nopAlu2, .nopMop1, i, .nopMop3⟩

/-- A word whose MOP3 is `i` and whose other fields are NOP. -/
def wordMop3 (i : Instr) : InsnWord := ⟨.nopAlu1, .nopAlu2, .nopMop1, .nopMop2, i⟩

/-- A word of a PC operation with its target in PCADDR (41_pc_operations.md R160). -/
def wordBranch (i : Instr) (target : Addr) : InsnWord :=
  ⟨i, .nopAlu2, .nopMop1, .nopMop2, .pcaddr target⟩

/-- The state one clock on in which a word does nothing of its own and no PC operation is in the
pipe: the product lands in MR, a pending compare result in A_CP_B, the PC advances, no store is in
flight, and the other agents' registers (VOL, LFS, DLYO), DLY_AGE and the clock counts move on. -/
def ticked (s : State) : State :=
  { s with
    mr := product s.md s.mc
    acpb := s.pend.getD s.acpb
    pend := none
    lastStore := none
    pc := s.pc + 1
    vol := nextVol s
    lfs := Config.lfsrNext s.lfsrSeed s.lfs s.now
    dlyAge := s.dlyAge.map (· + 1)
    dlyo := if s.dlyAge = some 12 then Config.delayOut s.delayLog s.now else s.dlyo
    frameClock := s.frameClock + 1
    now := s.now + 1
    sched := Sched.empty }

/-! ### Words with several operations -/

/-- The operation of a word's n-th field, in field order (30_encoding.md R100). -/
def fieldOp (w : InsnWord) : Fin 5 → Instr
  | 0 => w.alu1
  | 1 => w.alu2
  | 2 => w.mop1
  | 3 => w.mop2
  | 4 => w.mop3

/-- Every write that `c` schedules stands in `t` (00_scope.md R12(b)). -/
def Landed (c : Sched) (t : State) : Prop :=
  (∀ v, c.b = some v → t.b = v) ∧ (∀ v, c.l = some v → t.l = v) ∧
  (∀ v, c.md = some v → t.md = v) ∧ (∀ v, c.mc = some v → t.mc = v) ∧
  (∀ v, c.br = some v → t.br = v) ∧ (∀ v, c.lr = some v → t.lr = v) ∧
  (∀ v, c.acc = some v → t.acc = v) ∧ (∀ v, c.dlyi = some v → t.dlyi = v) ∧
  (∀ k v, c.out = some (k, v) → t.outs[k] = v) ∧
  (∀ f, c.pend = some f → t.pend = some f) ∧ (∀ p, c.pipe = some p → t.pipe = some p) ∧
  (∀ a v, c.store = some (.data a v) → Memory.read t.data a.toNat = some v) ∧
  (∀ a v, c.store = some (.coef a v) → Memory.read t.coef a.toNat = some v) ∧
  (∀ v, c.store = some (.dreg0 v) → t.dreg0 = v)

/-- The register that `c` schedules a write of. -/
def Sched.writes (c : Sched) : RegName → Bool
  | .b => c.b.isSome
  | .l => c.l.isSome
  | .md => c.md.isSome
  | .mc => c.mc.isSome
  | .br => c.br.isSome
  | .lr => c.lr.isSome
  | .acc => c.acc.isSome
  | .dlyi => c.dlyi.isSome
  | .out k => c.out.any (fun p => p.1 == k)

/-- The operation, on the state its word sees, schedules a write of the register (10_state.md
R46). -/
def WritesReg (r : RegName) (i : Instr) (s : State) : Prop :=
  ∃ u, exec i s = .next u ∧ u.sched.writes r = true

/-- The register has the same value in both states. -/
def Kept (r : RegName) (s t : State) : Prop :=
  match r with
  | .b => t.b = s.b
  | .l => t.l = s.l
  | .md => t.md = s.md
  | .mc => t.mc = s.mc
  | .br => t.br = s.br
  | .lr => t.lr = s.lr
  | .acc => t.acc = s.acc
  | .dlyi => t.dlyi = s.dlyi
  | .out k => t.outs[k] = s.outs[k]

/-- Two fields of the word write the register; the two CLRACC, which write the same value, do not
count (10_state.md R47). -/
def WrittenTwice (r : RegName) (w : InsnWord) (s : State) : Prop :=
  (∃ m n : Fin 5, m < n ∧ WritesReg r (fieldOp w m) (issue w s) ∧
    WritesReg r (fieldOp w n) (issue w s)) ∧
  ¬ (r = .acc ∧ w.alu1 = .clraccAlu1 ∧ w.alu2 = .clraccAlu2)

/-- The loads of DATA word `a` that read it under the flag, each with what the word it read does to
the next state (43_mop1.md R232 to R244). -/
def dataLoads (flag : Bool) (a : Addr) : List (Instr × (Data → State → State)) :=
  [(.ldDataMd a, fun v t => { t with md := v }), (.ldDataB a, fun v t => { t with b := v }),
   (.ldDataL a, fun v t => { t with l := v }),
   (.ldDataBl a, fun v t => { t with b := v, l := v }),
   (.ldDataMc a, fun v t => { t with mc := v.setWidth 28 }),
   (if flag then .ldcDataMd a else .lncDataMd a, fun v t => { t with md := v }),
   (if flag then .ldcDataB a else .lncDataB a, fun v t => { t with b := v }),
   (if flag then .ldcDataL a else .lncDataL a, fun v t => { t with l := v })]

/-- The loads of COEF word `a` that read it under the flag (44_mop2.md R252 to R255). -/
def coefLoads (flag : Bool) (a : Addr) : List (Instr × (Coef → State → State)) :=
  [(.ldCoefMc a, fun v t => { t with mc := v }),
   (.ldCoefL a, fun v t => { t with l := BitVec.ofInt 48 v.toInt }),
   (if flag then .ldcCoefMc a else .lncCoefMc a, fun v t => { t with mc := v })]

/-- The register value that a store names: the old one (45_mop3.md R267 to R275). -/
def storeSource (s : State) : Instr → Data
  | .stMdData _ | .stMdCoef _ => s.md
  | .stBData _ | .stBCoef _ => s.b
  | .stLData _ | .stLCoef _ => s.l
  | .stDlyoData _ => s.dlyo
  | .stDiData a => diSource a s
  | .stVolData a => volSource a s
  | _ => 0

/-- The ADD forms that write DO(k+1) (42_alu2.md R192, R194, R198, R200). -/
def outputForms (k : Fin 8) : List Instr :=
  (#v[[.addBrMrClp32Do1, .addBrLrClp32Do1, .addAccMrClp32Do1, .addAccLrClp32Do1],
    [.addBrMrClp32Do2, .addBrLrClp32Do2, .addAccMrClp32Do2, .addAccLrClp32Do2],
    [.addBrMrClp32Do3, .addBrLrClp32Do3, .addAccMrClp32Do3, .addAccLrClp32Do3],
    [.addBrMrClp32Do4, .addBrLrClp32Do4, .addAccMrClp32Do4, .addAccLrClp32Do4],
    [.addBrMrClp32Do5, .addBrLrClp32Do5, .addAccMrClp32Do5, .addAccLrClp32Do5],
    [.addBrMrClp32Do6, .addBrLrClp32Do6, .addAccMrClp32Do6, .addAccLrClp32Do6],
    [.addBrMrClp32Do7, .addBrLrClp32Do7, .addAccMrClp32Do7, .addAccLrClp32Do7],
    [.addBrMrClp32Do8, .addBrLrClp32Do8, .addAccMrClp32Do8, .addAccLrClp32Do8]] :
    Vector (List Instr) 8)[k]

/-! ### What a fault records (60_exceptions.md R301) -/

/-- PC_t and the clock t that a fault records. -/
def Fault.site : Fault → Site
  | .illegalEncoding _ _ x | .pcOpMalformed x | .pipeNotClear x | .busConflict x
  | .writeConflict _ x | .loadAfterStore _ _ x | .addressOutOfRange _ _ x | .unwrittenRead _ x
  | .delayTooEarly _ x | .delayPointerMissing x | .pcOutOfRange x | .frameOverrun x => x

/-! ### The invariant -/

/-- A memory in canonical form with every listed address below `n`. -/
def memoryOk {w : Nat} (n : Nat) (m : List (Nat × BitVec w)) : Prop :=
  Memory.wf m = true ∧ Memory.below n m = true

/-- PIPE holds 1 to 3 words still to pass, and a STOP has no target (10_state.md R42, R166). -/
def pipeOk (p : Option Pipe) : Prop :=
  ∀ q, p = some q → 1 ≤ q.remaining ∧ q.remaining ≤ 3 ∧ (q.stop = true → q.target = none)

/-- The DLYI write that DLY_AGE counts from lies in this frame (10_state.md R43, R303). -/
def delayAgeOk (s : State) : Prop := ∀ n, s.dlyAge = some n → 1 ≤ n ∧ n ≤ s.frameClock

/-- The invariant of the machine: the parameters obey R7; the three memories are canonical and
inside their sizes; the special DATA locations are no memory words (R57); nothing is scheduled
between two steps; the pipe is legal, empty while stopped (R42, R44); the frame's clock count stays
within the frame (R303). -/
def State.Inv (s : State) : Prop :=
  s.cfg.wf = true ∧
  memoryOk s.cfg.dataWords s.data ∧ memoryOk s.cfg.coefWords s.coef ∧
  memoryOk s.cfg.imemWords s.imem ∧
  (∀ a : Addr, ¬ plainAddr a → Memory.read s.data a.toNat = none) ∧
  s.sched = Sched.empty ∧ pipeOk s.pipe ∧ (s.run = .stopped → s.pipe = none) ∧
  s.frameClock ≤ s.cfg.cyclesPerFrame ∧ delayAgeOk s

end Sys2Proof.Machine
end

