-- ==== Sys2Proof/Certificates/Slice0/Obligations.lean ====
section
/-! DEFINITION. The statements for the provers. Each docstring names the rules of spec/ it rests on.
A statement about an operation says what `exec` answers (the writes it schedules) and, for the word
that holds only this operation, the whole next state: `ticked s` with the written fields replaced,
so that every other register, flag and memory word is said to be as after a word that does
nothing. -/

open Sys2Proof Sys2Proof.Machine

/-! ### Reset, the invariant, the step -/

/-- After reset the PC is 0, the hidden state is absent, no memory word is written and the "Reset
low" ESFRs are 0; the first step is the frame sequencer's start of the first frame, in the same way
as of every frame: PC 0, running, the hidden state absent, DI eight fresh words, no memory word
written (R59, R303, R310, R340). That reset stands at a frame boundary is the model's choice (log
21); DI's words are free values (log 10). -/
def Obligations.ResetState : Prop :=
  State.reset.pc = 0 ∧ State.reset.pend = none ∧
  State.reset.lastStore = none ∧ State.reset.pipe = none ∧ State.reset.dlyAge = none ∧
  (∀ a : Nat, Memory.read State.reset.data a = none ∧ Memory.read State.reset.coef a = none ∧
    Memory.read State.reset.imem a = none) ∧
  (let e := State.reset.esfr
   e.toDsp0 = 0 ∧ e.toDsp3 = 0 ∧ e.toDsp4 = 0 ∧ e.toDsp5 = 0 ∧ e.toDsp6 = 0 ∧ e.addrLo = 0 ∧
   e.addrHi = 0 ∧ e.mode0 = false ∧ e.mode3 = false ∧ e.mode4 = false ∧ e.mode5 = false) ∧
  ∃ t, step State.reset = .next t ∧ t.pc = 0 ∧ t.run = .running ∧ t.pipe = none ∧
    t.lastStore = none ∧ t.pend = none ∧ t.dlyAge = none ∧ t.frameClock = 0 ∧
    (∀ k : Fin 8, t.di[k] = Config.diSample 0 k) ∧
    ∀ a : Nat, Memory.read t.data a = none ∧ Memory.read t.coef a = none ∧
      Memory.read t.imem a = none

/-- The state after reset meets the invariant. -/
def Obligations.ResetInv : Prop := State.Inv State.reset

/-- Every step keeps the invariant: legal parameters, canonical memories inside their sizes, no word
at the special DATA locations, a legal pipe, none while stopped, a frame that never runs long (R7,
R42, R44, R57, R84, R303). The memories' canonical form and the frame's clock count are the model's
own (logs 1, 21). -/
def Obligations.StepKeepsInv : Prop :=
  ∀ s t : State, s.Inv → step s = .next t → t.Inv

/-- A step of the running machine inside a frame is the decoded word at the PC and then the host's
turn; the word is its five operations in field order between the checks and the end of the clock;
with no host action waiting the step is the word alone (R12, R78, R110, R306). The host's turn and
the place of the checks are the model's (logs 16, 18). -/
def Obligations.StepRunsDecodedWord : Prop :=
  ∀ (s : State) (bits : InsnBits) (w : InsnWord),
    s.frameClock < s.cfg.cyclesPerFrame → s.run = .running → s.pc < s.cfg.imemWords →
    Memory.read s.imem s.pc = some bits → decode s.cfg bits = .ok w →
    step s = andThen (execWord w s) (hostTurn (portFree s.cfg w.mop3)) ∧
    (s.hostQueue = [] → step s = execWord w s) ∧
    (wordFault w s = none → unwrittenFault w s = none →
      execWord w s =
        andThen (exec w.alu1 (issue w s)) fun s1 => andThen (exec w.alu2 s1) fun s2 =>
        andThen (exec w.mop1 s2) fun s3 => andThen (exec w.mop2 s3) fun s4 =>
        andThen (exec w.mop3 s4) endOfClock)

/-- At a frame boundary, that before the first frame included, a stopped program is restarted: PC 0,
running, the hidden state absent, DI fresh, free values (log 10); every memory, DO1 to DO8 and DREG0
are kept, and no clock passes (R303, R340). A program that has not stopped is an overrun (R304).
That the restart is a step of its own is the model's choice (log 21). -/
def Obligations.FrameBoundary : Prop :=
  ∀ s : State, s.cfg.cyclesPerFrame ≤ s.frameClock →
    (s.run = .stopped → s.pipe = none → ∃ t, step s = .next t ∧
      t.pc = 0 ∧ t.run = .running ∧ t.pipe = none ∧ t.lastStore = none ∧ t.pend = none ∧
      t.dlyAge = none ∧ t.frameClock = 0 ∧ (∀ k : Fin 8, t.di[k] = Config.diSample s.now k) ∧
      t.data = s.data ∧ t.coef = s.coef ∧ t.imem = s.imem ∧ t.delayLog = s.delayLog ∧
      t.outs = s.outs ∧ t.dreg0 = s.dreg0 ∧ t.cfg = s.cfg ∧ t.esfr = s.esfr ∧
      t.lfsrSeed = s.lfsrSeed ∧ t.pcStart = s.pcStart ∧ t.hostQueue = s.hostQueue ∧
      t.now = s.now) ∧
    (s.run = .running ∨ s.pipe ≠ none → step s = .fault (.frameOverrun ⟨s.pc, s.now⟩))

/-- While stopped, with no host action waiting, a clock executes no word and the DSP writes no
register, flag or memory word: PC, RUN, the registers, MR, A_CP_B and the memories keep their values
(R44, R166). That DLY_AGE counts on and that no store stays in flight is the model's choice (log
31). -/
def Obligations.StoppedClock : Prop :=
  ∀ s : State, s.frameClock < s.cfg.cyclesPerFrame → s.run = .stopped → s.hostQueue = [] →
    ∃ t, step s = .next t ∧
      t = { s with vol := t.vol, lfs := t.lfs, dlyo := t.dlyo, lastStore := none,
                   dlyAge := s.dlyAge.map (· + 1), frameClock := s.frameClock + 1,
                   now := s.now + 1, sched := Sched.empty }

/-- A waiting host write of a plain DATA word or of a COEF word lands, whole, the low 48 or 28 bits
of Data_to_DSP_o (R53), after a word whose MOP3 code is 0000 (NOP, DLYPTR, and PCADDR where that is
its code), and after a stopped clock; after a word with any other MOP3 code it waits, and every
store has another code (R86, R266, R276). No host write raises a fault, as R301 names none; one of
DREG0, of the LFSR or past the end is refused, which is the model's choice (log 19). The queue and
the moment are the model's (log 18). -/
def Obligations.HostWrites : Prop :=
  ∀ (s : State) (a : Addr) (rest : List HostAction), s.frameClock < s.cfg.cyclesPerFrame →
    (∀ (t : State) (w : InsnWord) (bits : InsnBits), s.run = .running → s.pc < s.cfg.imemWords →
      Memory.read s.imem s.pc = some bits → decode s.cfg bits = .ok w →
      execWord w s = .next t →
      (storeTarget w.mop3 ≠ none → (fieldsOf bits).mop3 ≠ 0#4) ∧
      (s.hostQueue = .writeData a :: rest → DataStorable a s →
        ((fieldsOf bits).mop3 = 0#4 → step s = .next
          { t with data := Memory.write t.data a.toNat (busData s.esfr),
                   lastStore := some (.data, a), hostQueue := rest }) ∧
        ((fieldsOf bits).mop3 ≠ 0#4 → step s = .next t)) ∧
      (s.hostQueue = .writeCoef a :: rest → a.toNat < s.cfg.coefWords →
        ((fieldsOf bits).mop3 = 0#4 → step s = .next
          { t with coef := Memory.write t.coef a.toNat (busCoef s.esfr),
                   lastStore := some (.coef, a), hostQueue := rest }) ∧
        ((fieldsOf bits).mop3 ≠ 0#4 → step s = .next t))) ∧
    (s.run = .stopped →
      (s.hostQueue = .writeData a :: rest → DataStorable a s →
        ∃ t, step s = .next t ∧
          (∀ x : Nat, Memory.read t.data x =
            if x = a.toNat then some (busData s.esfr) else Memory.read s.data x) ∧
          t.lastStore = some (.data, a) ∧ t.hostQueue = rest ∧ t.coef = s.coef ∧ t.pc = s.pc) ∧
      (s.hostQueue = .writeCoef a :: rest → a.toNat < s.cfg.coefWords →
        ∃ t, step s = .next t ∧
          (∀ x : Nat, Memory.read t.coef x =
            if x = a.toNat then some (busCoef s.esfr) else Memory.read s.coef x) ∧
          t.lastStore = some (.coef, a) ∧ t.hostQueue = rest ∧ t.data = s.data ∧ t.pc = s.pc)) ∧
    (∀ (free : Bool) (f : Fault), hostTurn free s ≠ .fault f) ∧
    (s.hostQueue = .writeData a :: rest →
      a = 0x2BE ∨ a = 0x301 ∨ (a ≠ 0x2BC ∧ a ≠ 0x2BD ∧ s.cfg.dataWords ≤ a.toNat) →
      hostTurn true s = .refused (.hostWriteNotDescribed .data a)) ∧
    (s.hostQueue = .writeCoef a :: rest → s.cfg.coefWords ≤ a.toNat →
      hostTurn true s = .refused (.hostWriteNotDescribed .coef a))

/-- The host's registers: a waiting ESFR write lands after any word; the bits that the register
holds then read as the written byte and the held bits of every other register as before (the other
bits of the byte are free, and which bits a register holds, bit 0 for a mode bit, is the model's
choice, log 34); the lanes of Data_to_DSP_o and micro_addr_o stand in address order, and a DATA or
COEF word is the low bits of the former; a host write of 0x2BC or 0x2BD sets the LFSR seed or PC
START alone; no ESFR but the VUB's six reaches VOL, the mode bits least of all (R51, R53, R54, R55,
R56, R57, R320). The moment of the write and the 48 bits of the seed and of PC START are the model's
(logs 18, 19). -/
def Obligations.HostRegisters : Prop :=
  (∀ (s t : State) (w : InsnWord) (r : EsfrName) (v : BitVec 8) (rest : List HostAction),
    execWord w s = .next t → s.hostQueue = .writeEsfr r v :: rest →
    andThen (execWord w s) (hostTurn (portFree s.cfg w.mop3)) =
      .next { t with esfr := esfrWrite r v s.esfr, hostQueue := rest }) ∧
  (∀ (r q : EsfrName) (v : BitVec 8) (s : State),
    esfrRead q { s with esfr := esfrWrite r v s.esfr } &&& esfrMask q =
      if q = r then v &&& esfrMask r else esfrRead q s &&& esfrMask q) ∧
  (∀ e : Esfr, (dataToDsp e).toNat = e.toDsp0.toNat + 2 ^ 8 * e.toDsp1.toNat +
      2 ^ 16 * e.toDsp2.toNat + 2 ^ 24 * e.toDsp3.toNat + 2 ^ 32 * e.toDsp4.toNat +
      2 ^ 40 * e.toDsp5.toNat + 2 ^ 48 * e.toDsp6.toNat ∧
    (busData e).toNat = e.toDsp0.toNat + 2 ^ 8 * e.toDsp1.toNat + 2 ^ 16 * e.toDsp2.toNat +
      2 ^ 24 * e.toDsp3.toNat + 2 ^ 32 * e.toDsp4.toNat + 2 ^ 40 * e.toDsp5.toNat ∧
    (busCoef e).toNat = e.toDsp0.toNat + 2 ^ 8 * e.toDsp1.toNat + 2 ^ 16 * e.toDsp2.toNat +
      2 ^ 24 * (e.toDsp3.toNat % 16) ∧
    (microAddr e).toNat = e.addrLo.toNat + 2 ^ 8 * e.addrHi.toNat) ∧
  (∀ (s : State) (v : Data),
    hostWriteData 0x2BC v s = .next { s with lfsrSeed := v } ∧
    hostWriteData 0x2BD v s = .next { s with pcStart := v }) ∧
  (∀ (s : State) (r : EsfrName) (v : BitVec 8),
    r ∉ ([.a6, .a7, .a9, .aa, .ab, .ac] : List EsfrName) →
    nextVol { s with esfr := esfrWrite r v s.esfr } = nextVol s)

/-! ### Encoding -/

/-- Decoding an encoded canonical word gives the word back, with every operand at every value, under
every legal choice of the open codes that gives the word's ALU2 and MOP3 operations a code (R100 to
R118). -/
def Obligations.DecodeOfEncode : Prop :=
  ∀ (cfg : Config) (w : InsnWord), cfg.wf = true → w.canonical cfg = true →
    (alu2Code cfg w.alu2).isSome = true → (mop3Code cfg w.mop3).isSome = true →
    ∃ bits, encode cfg w = some bits ∧ decode cfg bits = .ok w

/-- A decoded word stands in its slots, and encoding a decoded well-formed word gives back its five
operation fields and the address field of every operation that is not NOP: no bit of an operation is
dropped (R100, R108, R110). -/
def Obligations.EncodeOfDecode : Prop :=
  ∀ (cfg : Config) (bits : InsnBits) (w : InsnWord), cfg.wf = true → decode cfg bits = .ok w →
    w.slotsOk = true ∧
    (w.wellFormed = true → ∃ bits', encode cfg w = some bits' ∧
      (fieldsOf bits').alu1 = (fieldsOf bits).alu1 ∧ (fieldsOf bits').alu2 = (fieldsOf bits).alu2 ∧
      (fieldsOf bits').mop1 = (fieldsOf bits).mop1 ∧ (fieldsOf bits').mop2 = (fieldsOf bits).mop2 ∧
      (fieldsOf bits').mop3 = (fieldsOf bits).mop3 ∧
      (w.mop1 ≠ .nopMop1 → (fieldsOf bits').ad1 = (fieldsOf bits).ad1) ∧
      (w.mop2 ≠ .nopMop2 → (fieldsOf bits').ad2 = (fieldsOf bits).ad2) ∧
      (w.mop3 ≠ .nopMop3 → (fieldsOf bits').ad3 = (fieldsOf bits).ad3))

/-- A word with a field value that no table and no parameter assigns does not decode, whatever the
other fields hold: the step that fetches it faults with the field and the code of its first such
field, the fields before it holding any assigned code (R115, the spec's decision D18, log 25). -/
def Obligations.UnassignedCodesAreIllegal : Prop :=
  ∀ (s : State) (bits : InsnBits),
    s.frameClock < s.cfg.cyclesPerFrame → s.run = .running → s.pc < s.cfg.imemWords →
    Memory.read s.imem s.pc = some bits →
    (let f := fieldsOf bits
     let bad1 := alu1Unassigned f.alu1 = true ∧ f.alu1 ≠ s.cfg.shl2Code
     let bad2 := alu2Unassigned f.alu2 = true ∧ some f.alu2 ≠ s.cfg.alu2ClraccCode ∧
       some f.alu2 ≠ s.cfg.addAccZeroNoneLCode ∧ some f.alu2 ≠ s.cfg.addAccZeroNoneMdCode
     let bad3 := f.mop1 ∉ [0#5, 1, 2, 3, 5, 6, 7, 8, 9, 0x14, 0x1C, 0x1F]
     let bad4 := f.mop2 ∈ [3#3, 4, 5]
     let bad5 := mop3Unassigned f.mop3 = true ∧ f.mop3 ≠ s.cfg.pcaddrCode ∧
       some f.mop3 ≠ s.cfg.stVolCode
     (bad1 → step s = .fault (.illegalEncoding .alu1 f.alu1.toNat ⟨s.pc, s.now⟩)) ∧
     (¬ bad1 → bad2 → step s = .fault (.illegalEncoding .alu2 f.alu2.toNat ⟨s.pc, s.now⟩)) ∧
     (¬ bad1 → ¬ bad2 → bad3 →
       step s = .fault (.illegalEncoding .mop1 f.mop1.toNat ⟨s.pc, s.now⟩)) ∧
     (¬ bad1 → ¬ bad2 → ¬ bad3 → bad4 →
       step s = .fault (.illegalEncoding .mop2 f.mop2.toNat ⟨s.pc, s.now⟩)) ∧
     (¬ bad1 → ¬ bad2 → ¬ bad3 → ¬ bad4 → bad5 →
       step s = .fault (.illegalEncoding .mop3 f.mop3.toNat ⟨s.pc, s.now⟩)))

/-- The all-NOP word is the word 0, under every choice of the open codes (R109). -/
def Obligations.NopWordIsZero : Prop :=
  ∀ cfg : Config, encode cfg .nops = some 0 ∧ decode cfg 0 = .ok .nops

/-- A few words written out bit by bit from the tables decode to the operations they stand for, one
of each family (R101 to R105). That MOP3 code 0000 beside JMP is PCADDR, in the last of them, rests
on PCADDR_MOP3_CODE = 0000, which no table prints: the reset state's choice (R113, D5; DESIGN
CHOICE, log 7). -/
def Obligations.WordsFromTheTables : Prop :=
  decode Config.initial 0b00010_0010000_00000_0000000000_000_0000000000_0000_0000000000#54 =
    .ok ⟨.negB, .compBrLr, .nopMop1, .nopMop2, .nopMop3⟩ ∧
  decode Config.initial 0b00000_0010101_00001_0000010010_001_0000100010_0000_0000000000#54 =
    .ok ⟨.nopAlu1, .addAccMrNoneAcc, .ldDataMd 0x012, .ldCoefMc 0x022, .nopMop3⟩ ∧
  decode Config.initial 0b00000_0000000_00000_0000000000_000_0000000000_0010_0000010100#54 =
    .ok ⟨.nopAlu1, .nopAlu2, .nopMop1, .nopMop2, .stBData 0x014⟩ ∧
  decode Config.initial 0b10010_0000000_00000_0000000000_000_0000000000_0000_0000000111#54 =
    .ok ⟨.jmp 7, .nopAlu2, .nopMop1, .nopMop2, .pcaddr 7⟩

/-! ### ALU1 -/

/-- NOP in any field, and PCADDR, schedule nothing; DLYPTR schedules its pointer alone. A clock
whose word is all-NOP, or holds only a DLYPTR, only ticks: no register, flag or memory word changes
but MR, which follows MD and MC, and A_CP_B, if a compare result is pending (R131, R189, R231, R251,
R266, R276, R280). -/
def Obligations.NopCompletes : Prop :=
  ∀ s : State,
    (∀ i ∈ ([.nopAlu1, .nopAlu2, .nopMop1, .nopMop2, .nopMop3] : List Instr),
      exec i s = .next s) ∧
    (∀ label, exec (.pcaddr label) s = .next s) ∧
    (∀ ptr, exec (.dlyptr ptr) s = .next { s with sched := { s.sched with dlyPtr := some ptr } }) ∧
    (s.pipe = none → execWord .nops s = .next (ticked s) ∧
      ∀ ptr, execWord (wordMop3 (.dlyptr ptr)) s = .next (ticked s))

/-- The ALU1 operations on B: ABS and NEG in integers modulo 2^48 (the most negative word gives
itself), SHR as division of the unsigned word, SHL as multiplication modulo 2^48, THRU (R132, R134,
R140, R141, R143; the wrap and the logical shift are the spec's decisions D15, D16, D37, log 25). -/
def Obligations.Alu1OnB : Prop :=
  ∀ s : State, ∀ p ∈ ([
      (.absB, BitVec.ofInt 48 (if s.b.toInt < 0 then -s.b.toInt else s.b.toInt)),
      (.negB, BitVec.ofInt 48 (-s.b.toInt)), (.thruB, s.b),
      (.shr1, BitVec.ofNat 48 (s.b.toNat / 2)), (.shr2, BitVec.ofNat 48 (s.b.toNat / 4)),
      (.shr3, BitVec.ofNat 48 (s.b.toNat / 8)), (.shr4, BitVec.ofNat 48 (s.b.toNat / 16)),
      (.shl1, BitVec.ofInt 48 (s.b.toInt * 2)), (.shl2, BitVec.ofInt 48 (s.b.toInt * 4)),
      (.shl3, BitVec.ofInt 48 (s.b.toInt * 8)), (.shl4, BitVec.ofInt 48 (s.b.toInt * 16)),
      (.shl20, BitVec.ofInt 48 (s.b.toInt * 1048576))] : List (Instr × Data)),
    exec p.1 s = .next (setBr p.2 s) ∧
    (s.pipe = none → execWord (wordAlu1 p.1) s = .next { ticked s with br := p.2 })

/-- The ALU1 operations on L but the logarithms: ABS, NEG, THRU (R133, R135, R144; D15, log 25). -/
def Obligations.Alu1OnL : Prop :=
  ∀ s : State, ∀ p ∈ ([
      (.absL, BitVec.ofInt 48 (if s.l.toInt < 0 then -s.l.toInt else s.l.toInt)),
      (.negL, BitVec.ofInt 48 (-s.l.toInt)), (.thruL, s.l)] : List (Instr × Data)),
    exec p.1 s = .next (setLr p.2 s) ∧
    (s.pipe = none → execWord (wordAlu1 p.1) s = .next { ticked s with lr := p.2 })

/-- LOG2 writes LR with a word that keeps what the source fixes: inside the stated input range only
bits 27 to 19 are set, and both ends of the range and the two data points hold (R136; the value
elsewhere is free, log 8). -/
def Obligations.Log2Completes : Prop :=
  ∀ s : State, ∃ v : Data,
    exec .log2 s = .next (setLr v s) ∧
    (s.pipe = none → execWord (wordAlu1 .log2) s = .next { ticked s with lr := v }) ∧
    (s.l.msb = false → ∃ bits : BitVec 9, v = bits.setWidth 48 <<< 19) ∧
    (s.l = 0 → v = 0x00000FF80000) ∧ (s.l = 0x7FFFFFFFFFFF → v = 0) ∧
    (s.l = 0x200000000000 → v = 0x000000F80000) ∧ (s.l = 0x008000000000 → v = 0x000003F80000)

/-- ALOG2 writes LR with a word that keeps what the source fixes: the two data points; the bound of
five integer bits for an input in the 5.4 format is the model's reading of the output range (DESIGN
CHOICE, log 8) (R137). -/
def Obligations.Alog2Completes : Prop :=
  ∀ s : State, ∃ v : Data,
    exec .alog2 s = .next (setLr v s) ∧
    (s.pipe = none → execWord (wordAlu1 .alog2) s = .next { ticked s with lr := v }) ∧
    ((∃ bits : BitVec 9, s.l = bits.setWidth 48 <<< 19) → v.toNat < 2 ^ 28) ∧
    (s.l = 0x000000F80000 → v = 0x000002000000) ∧ (s.l = 0x000000780000 → v = 0x000004000000)

/-- CLRACC of either field clears ACC; both in one word are no conflict (R47, R142, R190). -/
def Obligations.ClraccCompletes : Prop :=
  ∀ s : State,
    exec .clraccAlu1 s = .next (setAcc 0 s) ∧
    (s.sched.acc = none → exec .clraccAlu2 s = .next (setAcc 0 s)) ∧
    (s.sched.acc = some 0 → exec .clraccAlu2 s = .next s) ∧
    (s.pipe = none →
      execWord (wordAlu1 .clraccAlu1) s = .next { ticked s with acc := 0 } ∧
      execWord (wordAlu2 .clraccAlu2) s = .next { ticked s with acc := 0 } ∧
      execWord ⟨.clraccAlu1, .clraccAlu2, .nopMop1, .nopMop2, .nopMop3⟩ s =
        .next { ticked s with acc := 0 })

/-! ### ALU2 -/

/-- The multiplier: in every clock that a word executes, whatever the word holds, the exact product
of the old MD and MC lands in MR (R27, R180). -/
def Obligations.MultiplierEveryClock : Prop :=
  ∀ (w : InsnWord) (s t : State), execWord w s = .next t →
    t.mr.toInt = s.md.toInt * s.mc.toInt

/-- Conv76: 28 zeroes concatenated below and an arithmetic shift right by five is the shift left by
23 of the sign-extended word, an exact multiplication by 2^23; the word's bit 0 lands on bit 23, its
sign bit on bit 70 and, copied, on bits 75 to 71 (R183). -/
def Obligations.Conv76Exact : Prop :=
  ∀ v : Data, conv76 v = (v ++ 0#28 : BitVec 76).sshiftRight 5 ∧
    conv76 v = v.signExtend 76 <<< 23 ∧ (conv76 v).toInt = v.toInt * 2 ^ 23 ∧
    (∀ i, i < 48 → (conv76 v).getLsbD (23 + i) = v.getLsbD i) ∧
    (∀ i, 71 ≤ i → i < 76 → (conv76 v).getLsbD i = v.msb)

/-- Reduce48: one unit of bit 23 is added to a negative sum whose low 23 bits are not all zero; then
the five bits 74 to 70 that differ from the sign give the most negative or the most positive word,
else bits 70 to 23 are the result. In integers it is the sum divided by 2^23 toward zero, saturated
to 48 bits (R184; that "adjacent lower bits" are bits 74 to 70 is the spec's inference there). -/
def Obligations.Reduce48IsSaturation : Prop :=
  ∀ x : Acc,
    (let y := if x.getLsbD 75 = true ∧ x.toNat % 2 ^ 23 ≠ 0 then x + 2 ^ 23 else x
     let mid := y.toNat / 2 ^ 70 % 32
     reduce48 x =
       if y.getLsbD 75 = true ∧ mid ≠ 31 then 0x800000000000
       else if y.getLsbD 75 = false ∧ mid ≠ 0 then 0x7FFFFFFFFFFF
       else BitVec.ofNat 48 (y.toNat / 2 ^ 23)) ∧
    (reduce48 x).toInt = satInt 48 (x.toInt.tdiv (2 ^ 23))

/-- ADD with clip NONE to B, L and MD: the wrapped 76-bit sum, rounded toward zero to units of 2^-23
and saturated to 48 bits; nothing else but the destination is written (R184, R187, R188, R191, R193,
R195, R197, R199, R201, R203). -/
def Obligations.AddToFirstPipe : Prop :=
  ∀ s : State,
    (∀ p ∈ ([(.addBrMrNoneB, .br, .mr), (.addBrLrNoneB, .br, .lr), (.addAccMrNoneB, .acc, .mr),
        (.addAccLrNoneB, .acc, .lr), (.addAccZeroNoneB, .acc, .zero),
        (.addBrZeroNoneB, .br, .zero)] : List (Instr × OperandA × OperandB)),
      let v := BitVec.ofInt 48 (saturatedSum 48 p.2.1 p.2.2 s)
      exec p.1 s = .next (setB v s) ∧
      (s.pipe = none → execWord (wordAlu2 p.1) s = .next { ticked s with b := v })) ∧
    (∀ p ∈ ([(.addBrMrNoneL, .br, .mr), (.addBrLrNoneL, .br, .lr), (.addAccMrNoneL, .acc, .mr),
        (.addAccLrNoneL, .acc, .lr), (.addAccZeroNoneL, .acc, .zero),
        (.addBrZeroNoneL, .br, .zero)] : List (Instr × OperandA × OperandB)),
      let v := BitVec.ofInt 48 (saturatedSum 48 p.2.1 p.2.2 s)
      exec p.1 s = .next (setL v s) ∧
      (s.pipe = none → execWord (wordAlu2 p.1) s = .next { ticked s with l := v })) ∧
    (∀ p ∈ ([(.addBrMrNoneMd, .br, .mr), (.addBrLrNoneMd, .br, .lr),
        (.addAccMrNoneMd, .acc, .mr), (.addAccLrNoneMd, .acc, .lr),
        (.addAccZeroNoneMd, .acc, .zero), (.addBrZeroNoneMd, .br, .zero)] :
        List (Instr × OperandA × OperandB)),
      let v := BitVec.ofInt 48 (saturatedSum 48 p.2.1 p.2.2 s)
      exec p.1 s = .next (setMd v s) ∧
      (s.pipe = none → execWord (wordAlu2 p.1) s = .next { ticked s with md := v }))

/-- ADD with clip NONE to MC keeps the low 28 bits of the 48-bit result (R187, R188; the spec's
decision D13, log 25). -/
def Obligations.AddToMc : Prop :=
  ∀ s : State, ∀ p ∈ ([(.addBrMrNoneMc, .br, .mr), (.addBrLrNoneMc, .br, .lr),
      (.addAccMrNoneMc, .acc, .mr), (.addAccLrNoneMc, .acc, .lr),
      (.addBrZeroNoneMc, .br, .zero)] : List (Instr × OperandA × OperandB)),
    let v := BitVec.ofInt 28 (saturatedSum 48 p.2.1 p.2.2 s)
    exec p.1 s = .next (setMc v s) ∧
    (s.pipe = none → execWord (wordAlu2 p.1) s = .next { ticked s with mc := v })

/-- ADD to ACC writes all 76 bits of the sum, which wraps: no truncation, no clip (R187, R188). -/
def Obligations.AddToAcc : Prop :=
  ∀ s : State, ∀ p ∈ ([(.addBrMrNoneAcc, .br, .mr), (.addAccMrNoneAcc, .acc, .mr),
      (.addAccLrNoneAcc, .acc, .lr)] : List (Instr × OperandA × OperandB)),
    let v := BitVec.ofInt 76 (intA p.2.1 s + intB p.2.2 s)
    exec p.1 s = .next (setAcc v s) ∧
    (s.pipe = none → execWord (wordAlu2 p.1) s = .next { ticked s with acc := v })

/-- ADD to DLYI with its DLYPTR: DLYI and the delay memory take the value with the pointer, and
DLY_AGE starts (R187, R280, R316). That DLY_AGE is 1 after the word is the model's numbering (log
23); that DLYO keeps its value in that clock, whatever DLY_AGE was, and that the delay memory is the
list of the pairs it has taken are its choices (DESIGN CHOICE, log 13). -/
def Obligations.AddToDlyi : Prop :=
  ∀ (s : State) (ptr : Addr), ∀ p ∈ ([(.addBrMrNoneDlyi, .br, .mr), (.addBrLrNoneDlyi, .br, .lr),
      (.addAccMrNoneDlyi, .acc, .mr), (.addAccLrNoneDlyi, .acc, .lr)] :
      List (Instr × OperandA × OperandB)),
    let v := BitVec.ofInt 48 (saturatedSum 48 p.2.1 p.2.2 s)
    exec p.1 s = .next (setDlyi v s) ∧
    (s.pipe = none →
      execWord ⟨.nopAlu1, p.1, .nopMop1, .nopMop2, .dlyptr ptr⟩ s =
        .next { ticked s with
          dlyi := v, dlyPtr := ptr, delayLog := (ptr, v) :: s.delayLog, dlyAge := some 1,
          dlyo := s.dlyo })

/-- ADD with clip CLP32 to DO1 to DO8: the sum saturated to 32 + CLP32_LSB bits, and of it the 32
bits from CLP32_LSB up, for both values of the open parameter (log 6); no other output register
changes (R185, R187, R192, R194, R198, R200). -/
def Obligations.AddToOutputs : Prop :=
  ∀ s : State, ∀ p ∈ ([
      ([.addBrMrClp32Do1, .addBrMrClp32Do2, .addBrMrClp32Do3, .addBrMrClp32Do4,
        .addBrMrClp32Do5, .addBrMrClp32Do6, .addBrMrClp32Do7, .addBrMrClp32Do8], .br, .mr),
      ([.addBrLrClp32Do1, .addBrLrClp32Do2, .addBrLrClp32Do3, .addBrLrClp32Do4,
        .addBrLrClp32Do5, .addBrLrClp32Do6, .addBrLrClp32Do7, .addBrLrClp32Do8], .br, .lr),
      ([.addAccMrClp32Do1, .addAccMrClp32Do2, .addAccMrClp32Do3, .addAccMrClp32Do4,
        .addAccMrClp32Do5, .addAccMrClp32Do6, .addAccMrClp32Do7, .addAccMrClp32Do8], .acc, .mr),
      ([.addAccLrClp32Do1, .addAccLrClp32Do2, .addAccLrClp32Do3, .addAccLrClp32Do4,
        .addAccLrClp32Do5, .addAccLrClp32Do6, .addAccLrClp32Do7, .addAccLrClp32Do8], .acc, .lr)] :
      List (List Instr × OperandA × OperandB)),
    let lsb := s.cfg.clp32.lsb
    let v := BitVec.ofInt 32 (saturatedSum (32 + lsb) p.2.1 p.2.2 s / 2 ^ lsb)
    ∀ (k : Fin 8) (i : Instr), p.1[k.val]? = some i →
      exec i s = .next (setOut k v s) ∧
      (s.pipe = none → execWord (wordAlu2 i) s = .next { ticked s with outs := s.outs.set k v })

/-- ADD(ACC,MR,NONE,MDB) writes MD and B with the same value and clears ACC (R187, R197). -/
def Obligations.AddToMdb : Prop :=
  ∀ s : State,
    let v := BitVec.ofInt 48 (saturatedSum 48 .acc .mr s)
    exec .addAccMrNoneMdb s = .next (setAcc 0 (setB v (setMd v s))) ∧
    (s.pipe = none →
      execWord (wordAlu2 .addAccMrNoneMdb) s = .next { ticked s with md := v, b := v, acc := 0 })

/-- ADD(ACC,ZERO,CLP28,dest): ACC in units of 2^-23, saturated to 28 bits, to MC as it is and to B
and L sign-extended (R186, R187, R202). -/
def Obligations.AddClp28 : Prop :=
  ∀ s : State,
    let q := saturatedSum 28 .acc .zero s
    exec .addAccZeroClp28Mc s = .next (setMc (BitVec.ofInt 28 q) s) ∧
    exec .addAccZeroClp28B s = .next (setB (BitVec.ofInt 48 q) s) ∧
    exec .addAccZeroClp28L s = .next (setL (BitVec.ofInt 48 q) s) ∧
    (s.pipe = none →
      execWord (wordAlu2 .addAccZeroClp28Mc) s =
        .next { ticked s with mc := BitVec.ofInt 28 q } ∧
      execWord (wordAlu2 .addAccZeroClp28B) s = .next { ticked s with b := BitVec.ofInt 48 q } ∧
      execWord (wordAlu2 .addAccZeroClp28L) s = .next { ticked s with l := BitVec.ofInt 48 q })

/-- ADD(BR,ZERO,...): with clip NONE a move of BR to B, L and MD and of its low 28 bits to MC; with
CLP32 BR saturated to 32 + CLP32_LSB bits (R195, R196). -/
def Obligations.BrZeroMoves : Prop :=
  ∀ s : State,
    exec .addBrZeroNoneB s = .next (setB s.br s) ∧
    exec .addBrZeroNoneL s = .next (setL s.br s) ∧
    exec .addBrZeroNoneMd s = .next (setMd s.br s) ∧
    exec .addBrZeroNoneMc s = .next (setMc (s.br.setWidth 28) s) ∧
    (let v := BitVec.ofInt 48 (satInt (32 + s.cfg.clp32.lsb) s.br.toInt)
     exec .addBrZeroClp32B s = .next (setB v s) ∧
     (s.pipe = none → execWord (wordAlu2 .addBrZeroClp32B) s = .next { ticked s with b := v }))

/-- ADD(BR,LR,NONE,dest) is the saturating 48-bit add: the 76-bit sum never wraps and its reduction
is sat(BR + LR, 48) (R193). -/
def Obligations.BrLrSaturatingAdd : Prop :=
  ∀ s : State,
    let v := BitVec.ofInt 48 (satInt 48 (s.br.toInt + s.lr.toInt))
    wrappedSum .br .lr s = (s.br.toInt + s.lr.toInt) * 2 ^ 23 ∧
    exec .addBrLrNoneB s = .next (setB v s) ∧ exec .addBrLrNoneL s = .next (setL v s) ∧
    exec .addBrLrNoneMd s = .next (setMd v s) ∧ exec .addBrLrNoneDlyi s = .next (setDlyi v s) ∧
    exec .addBrLrNoneMc s = .next (setMc (v.setWidth 28) s)

/-- The six rules of Table 15 for the compare function: like signs give the common sign; of unlike
signs and equal magnitudes the flag is 1 exactly when A is the positive one; else it is 1 exactly
when A has the greater magnitude (R216). -/
def Obligations.CompFnSixRules : Prop :=
  ∀ a b : Acc,
    let x := a.toInt
    let y := b.toInt
    (0 ≤ x → 0 ≤ y → compFn a b = false) ∧
    (x < 0 → y < 0 → compFn a b = true) ∧
    (x < 0 → 0 ≤ y → x.natAbs = y.natAbs → compFn a b = false) ∧
    (0 ≤ x → y < 0 → x.natAbs = y.natAbs → compFn a b = true) ∧
    (decide (x < 0) ≠ decide (y < 0) → y.natAbs < x.natAbs → compFn a b = true) ∧
    (decide (x < 0) ≠ decide (y < 0) → x.natAbs < y.natAbs → compFn a b = false)

/-- The four COMP forms put the flag of the six rules of Table 15, on the exact operands, into
ACPB_PEND; A_CP_B and every register keep their values in this clock but for what was already
pending (R210 to R216). That BR and LR are aligned as in ADD, which decides COMP(BR,MR) and
COMP(ACC,LR), is the spec's inference (R210, N17; DEDUCED, log 25). -/
def Obligations.CompCompletes : Prop :=
  ∀ s : State, ∀ p ∈ ([(.compBrMr, .br, .mr), (.compBrLr, .br, .lr), (.compAccMr, .acc, .mr),
      (.compAccLr, .acc, .lr)] : List (Instr × OperandA × OperandB)),
    let f := sixRules (intA p.2.1 s) (intB p.2.2 s)
    exec p.1 s = .next { s with sched := { s.sched with pend := some f } } ∧
    (s.pipe = none → execWord (wordAlu2 p.1) s = .next { ticked s with pend := some f })

/-- The compare flag takes two clocks, whatever else the word of the COMP and the word after it
hold: after the word of a COMP A_CP_B is what it was, or what the word before the COMP had left
pending; after the next word it is the result (R40, R215). That the word one clock after the COMP
reads the older flag is decision D9 of the spec (log 26); that BR and LR are aligned as in ADD in
the mixed pairs is its inference (R210, N17; DEDUCED, log 25). -/
def Obligations.CompFlagTwoClocks : Prop :=
  ∀ s t u : State, ∀ p ∈ ([(.compBrMr, .br, .mr), (.compBrLr, .br, .lr), (.compAccMr, .acc, .mr),
      (.compAccLr, .acc, .lr)] : List (Instr × OperandA × OperandB)), ∀ w w' : InsnWord,
    w.slotsOk = true → w.alu2 = p.1 → execWord w s = .next t → execWord w' t = .next u →
    t.acpb = s.pend.getD s.acpb ∧ u.acpb = sixRules (intA p.2.1 s) (intB p.2.2 s)

/-! ### MOP1 and MOP2 -/

/-- The unconditional loads from DATA RAM: the word read goes whole to MD, B, L, to both B and L
(BL), or its low 28 bits to MC (D13, log 25); no memory word changes (R230, R232 to R236, R79). -/
def Obligations.LoadsFromData : Prop :=
  ∀ (s : State) (a : Addr) (v : Data), DataLoadable a v s →
    exec (.ldDataMd a) s = .next (setMd v s) ∧ exec (.ldDataB a) s = .next (setB v s) ∧
    exec (.ldDataL a) s = .next (setL v s) ∧ exec (.ldDataBl a) s = .next (setL v (setB v s)) ∧
    exec (.ldDataMc a) s = .next (setMc (v.setWidth 28) s) ∧
    (s.pipe = none →
      execWord (wordMop1 (.ldDataMd a)) s = .next { ticked s with md := v } ∧
      execWord (wordMop1 (.ldDataB a)) s = .next { ticked s with b := v } ∧
      execWord (wordMop1 (.ldDataL a)) s = .next { ticked s with l := v } ∧
      execWord (wordMop1 (.ldDataBl a)) s = .next { ticked s with b := v, l := v } ∧
      execWord (wordMop1 (.ldDataMc a)) s = .next { ticked s with mc := v.setWidth 28 })

/-- The conditional loads from DATA RAM when their condition holds: LDC with A_CP_B = 1, LNC with
A_CP_B = 0 (R237, R239 to R244). -/
def Obligations.ConditionalLoadsTaken : Prop :=
  ∀ (s : State) (a : Addr) (v : Data), DataLoadable a v s →
    (s.acpb = true →
      exec (.ldcDataB a) s = .next (setB v s) ∧ exec (.ldcDataL a) s = .next (setL v s) ∧
      exec (.ldcDataMd a) s = .next (setMd v s)) ∧
    (s.acpb = false →
      exec (.lncDataB a) s = .next (setB v s) ∧ exec (.lncDataL a) s = .next (setL v s) ∧
      exec (.lncDataMd a) s = .next (setMd v s)) ∧
    (s.pipe = none →
      execWord (wordMop1 (if s.acpb then .ldcDataB a else .lncDataB a)) s =
        .next { ticked s with b := v } ∧
      execWord (wordMop1 (if s.acpb then .ldcDataL a else .lncDataL a)) s =
        .next { ticked s with l := v } ∧
      execWord (wordMop1 (if s.acpb then .ldcDataMd a else .lncDataMd a)) s =
        .next { ticked s with md := v })

/-- A conditional load whose condition is false reads nothing and writes nothing, whatever the
address and the memory: no fault, and its word only ticks (R237, R254, R255; the spec's decision
D32, log 25). -/
def Obligations.ConditionalLoadsSkipped : Prop :=
  ∀ (s : State) (a : Addr), ∀ i ∈ (if s.acpb then
      [.lncDataB a, .lncDataL a, .lncDataMd a, .lncCoefMc a]
      else [.ldcDataB a, .ldcDataL a, .ldcDataMd a, .ldcCoefMc a] : List Instr),
    exec i s = .next s ∧
    (s.pipe = none →
      execWord (if i.slot = .mop1 then wordMop1 i else wordMop2 i) s = .next (ticked s))

/-- A MOP1 load of DATA address 0x301 gives the LFSR's word, whatever the memory and the store in
flight are (R80, R245; D35; the register LFS, free in value, is the model's reading, log 12). -/
def Obligations.LfsrLoads : Prop :=
  ∀ s : State,
    exec (.ldDataB 0x301) s = .next (setB s.lfs s) ∧
    exec (.ldDataL 0x301) s = .next (setL s.lfs s) ∧
    exec (.ldDataMd 0x301) s = .next (setMd s.lfs s) ∧
    exec (.ldDataBl 0x301) s = .next (setL s.lfs (setB s.lfs s)) ∧
    exec (.ldDataMc 0x301) s = .next (setMc (s.lfs.setWidth 28) s) ∧
    (s.acpb = true → exec (.ldcDataB 0x301) s = .next (setB s.lfs s) ∧
      exec (.ldcDataL 0x301) s = .next (setL s.lfs s) ∧
      exec (.ldcDataMd 0x301) s = .next (setMd s.lfs s)) ∧
    (s.acpb = false → exec (.lncDataB 0x301) s = .next (setB s.lfs s) ∧
      exec (.lncDataL 0x301) s = .next (setL s.lfs s) ∧
      exec (.lncDataMd 0x301) s = .next (setMd s.lfs s)) ∧
    (s.pipe = none → execWord (wordMop1 (.ldDataB 0x301)) s = .next { ticked s with b := s.lfs })

/-- The loads from COEF RAM: to MC as it is, to L sign-extended (the spec's decision D14, log 25),
and the conditional ones when their condition holds (R250, R252 to R255). -/
def Obligations.LoadsFromCoef : Prop :=
  ∀ (s : State) (a : Addr) (c : Coef), CoefLoadable a c s →
    exec (.ldCoefMc a) s = .next (setMc c s) ∧
    exec (.ldCoefL a) s = .next (setL (BitVec.ofInt 48 c.toInt) s) ∧
    (s.acpb = true → exec (.ldcCoefMc a) s = .next (setMc c s)) ∧
    (s.acpb = false → exec (.lncCoefMc a) s = .next (setMc c s)) ∧
    (s.pipe = none →
      execWord (wordMop2 (.ldCoefMc a)) s = .next { ticked s with mc := c } ∧
      execWord (wordMop2 (.ldCoefL a)) s =
        .next { ticked s with l := BitVec.ofInt 48 c.toInt } ∧
      execWord (wordMop2 (if s.acpb then .ldcCoefMc a else .lncCoefMc a)) s =
        .next { ticked s with mc := c })

/-! ### MOP3 -/

/-- The stores of MD, B, L, DI and VOL to a plain DATA address, and of DLYO when DLY_LATENCY clocks
have passed: the old register value, the input channel by the address's low three bits, the VOL
value by its low five. One memory word changes, and it is the store in flight (R265, R267 to R272,
R81, R85). That the low five bits select one of 24 VOL values is the spec's decision (D34, "This
spec reads them as"; log 25); the offsets 24 to 31, which name no value, store a free value (log
11); the clocks are counted as in log 23. -/
def Obligations.StoresToData : Prop :=
  ∀ (s : State) (a : Addr), DataStorable a s → ∀ p ∈ ([
      (.stMdData a, s.md), (.stBData a, s.b), (.stLData a, s.l),
      (.stDiData a, s.di[a.toNat % 8]'(Nat.mod_lt _ (by decide))),
      (.stVolData a, if h : a.toNat % 32 < 24 then s.vol[a.toNat % 32]
        else Config.volUnnamed s.now (a.toNat % 32)),
      (.stDlyoData a, s.dlyo)] : List (Instr × Data)),
    (p.1 = .stDlyoData a → ∃ n, s.dlyAge = some n ∧ 13 ≤ n) →
    exec p.1 s = .next (schedStore (.data a p.2) s) ∧
    (s.pipe = none → ∃ t, execWord (wordMop3 p.1) s = .next t ∧
      t = { ticked s with data := t.data, lastStore := some (.data, a) } ∧
      ∀ x : Nat, Memory.read t.data x =
        if x = a.toNat then some p.2 else Memory.read s.data x)

/-- A DSP store to DATA address 0x2BE, of any of the six sources, sets DREG0 and writes no memory
word; a second store overwrites the first; a DSP load of 0x2BE is out of range (R286, R81; the
spec's decision D35, log 25; the VOL value of the offset 30 is free, log 11). -/
def Obligations.StoresToDreg0 : Prop :=
  ∀ s : State,
    (∀ p ∈ ([(.stMdData 0x2BE, s.md), (.stBData 0x2BE, s.b), (.stLData 0x2BE, s.l),
        (.stDiData 0x2BE, s.di[6]), (.stVolData 0x2BE, Config.volUnnamed s.now 30),
        (.stDlyoData 0x2BE, s.dlyo)] : List (Instr × Data)),
      (p.1 = .stDlyoData 0x2BE → ∃ n, s.dlyAge = some n ∧ 13 ≤ n) →
      exec p.1 s = .next (schedStore (.dreg0 p.2) s) ∧
      (s.pipe = none → execWord (wordMop3 p.1) s =
        .next { ticked s with dreg0 := p.2, lastStore := some (.data, 0x2BE) })) ∧
    (∀ i ∈ ([.ldDataMd 0x2BE, .ldDataB 0x2BE, .ldDataL 0x2BE, .ldDataBl 0x2BE, .ldDataMc 0x2BE] :
        List Instr), exec i s = .fault (.addressOutOfRange .data 0x2BE ⟨s.pc, s.now⟩))

/-- The stores of B, MD and L to COEF RAM keep the low 28 bits, with no saturation; one memory word
changes (R273 to R275, R81). -/
def Obligations.StoresToCoef : Prop :=
  ∀ (s : State) (a : Addr), a.toNat < s.cfg.coefWords → ∀ p ∈ ([
      (.stBCoef a, s.b), (.stMdCoef a, s.md), (.stLCoef a, s.l)] : List (Instr × Data)),
    exec p.1 s = .next (schedStore (.coef a (p.2.setWidth 28)) s) ∧
    (s.pipe = none → ∃ t, execWord (wordMop3 p.1) s = .next t ∧
      t = { ticked s with coef := t.coef, lastStore := some (.coef, a) } ∧
      ∀ x : Nat, Memory.read t.coef x =
        if x = a.toNat then some (p.2.setWidth 28) else Memory.read s.coef x)

/-- A store and a load of the same word, for every store form and every load form that reads, in any
words: in the same word and in the next word the load faults, in DATA RAM and in COEF RAM alike; in
the word after a further word that does not store there it reads the stored value (R82, R83, R352;
the fault for the same word is the spec's own choice, R83, log 25). -/
def Obligations.StoreThenLoad : Prop :=
  ∀ (w w' : InsnWord) (s t u : State) (a : Addr), w.slotsOk = true → w'.slotsOk = true →
    (DataStorable a s → storeTarget w.mop3 = some (.data, a) →
      (∀ p ∈ dataLoads s.acpb a, w.mop1 = p.1 → wordFault w s = none →
        unwrittenFault w s = none → execWord w s = .fault (.loadAfterStore .data a ⟨s.pc, s.now⟩)) ∧
      (execWord w s = .next t →
        (∀ p ∈ dataLoads t.acpb a, w'.mop1 = p.1 → wordFault w' t = none →
          unwrittenFault w' t = none →
          execWord w' t = .fault (.loadAfterStore .data a ⟨t.pc, t.now⟩)) ∧
        (execWord w' t = .next u → storeTarget w'.mop3 ≠ some (.data, a) → u.pipe = none →
          ∀ p ∈ dataLoads u.acpb a, execWord (wordMop1 p.1) u =
            .next (p.2 (storeSource s w.mop3) (ticked u))))) ∧
    (a.toNat < s.cfg.coefWords → storeTarget w.mop3 = some (.coef, a) →
      (∀ p ∈ coefLoads s.acpb a, w.mop2 = p.1 → wordFault w s = none →
        unwrittenFault w s = none → (∃ x, exec w.mop1 (issue w s) = .next x) →
        execWord w s = .fault (.loadAfterStore .coef a ⟨s.pc, s.now⟩)) ∧
      (execWord w s = .next t →
        (∀ p ∈ coefLoads t.acpb a, w'.mop2 = p.1 → wordFault w' t = none →
          unwrittenFault w' t = none → (∃ x, exec w'.mop1 (issue w' t) = .next x) →
          execWord w' t = .fault (.loadAfterStore .coef a ⟨t.pc, t.now⟩)) ∧
        (execWord w' t = .next u → storeTarget w'.mop3 ≠ some (.coef, a) → u.pipe = none →
          ∀ p ∈ coefLoads u.acpb a, execWord (wordMop2 p.1) u =
            .next (p.2 ((storeSource s w.mop3).setWidth 28) (ticked u)))))

/-! ### PC operations -/

/-- JMP, BOC and BNC with a target inside the instruction memory and outside their own four words
set the pipe: JMP always with its target, BOC with A_CP_B = 1, BNC with A_CP_B = 0, else with none.
Their word changes nothing else (R160, R162 to R165, R170). -/
def Obligations.BranchesComplete : Prop :=
  ∀ (s : State) (a : Addr), a.toNat < s.cfg.imemWords →
    (a.toNat < s.pc ∨ s.pc + 3 < a.toNat) → ∀ p ∈ ([
      (.jmp a, some a), (.boc a, if s.acpb then some a else none),
      (.bnc a, if s.acpb then none else some a)] : List (Instr × Option Addr)),
    exec p.1 s = .next { s with sched := { s.sched with pipe := some ⟨3, p.2, false⟩ } } ∧
    (s.pipe = none → execWord (wordBranch p.1 a) s =
      .next { ticked s with pipe := some ⟨3, p.2, false⟩ })

/-- STOP sets the pipe with the stop mark at every PC, with NOP, with any PCADDR, or with a DLYPTR,
which counts as NOP, in MOP3, and its word changes nothing else (R161(c), R162, R166, R280). -/
def Obligations.StopCompletes : Prop :=
  ∀ (s : State) (a : Addr),
    exec .stop s = .next { s with sched := { s.sched with pipe := some ⟨3, none, true⟩ } } ∧
    (s.pipe = none →
      execWord (wordAlu1 .stop) s = .next { ticked s with pipe := some ⟨3, none, true⟩ } ∧
      execWord (wordBranch .stop a) s = .next { ticked s with pipe := some ⟨3, none, true⟩ } ∧
      execWord ⟨.stop, .nopAlu2, .nopMop1, .nopMop2, .dlyptr a⟩ s =
        .next { ticked s with pipe := some ⟨3, none, true⟩ })

/-- After a branch the three all-NOP words pass and the fourth clock is at the target, or at the
next address when it is not taken; the branch changes no register of the program (R162 to R165,
R169). -/
def Obligations.BranchTakesFourClocks : Prop :=
  ∀ (s : State) (a : Addr), s.pipe = none → a.toNat < s.cfg.imemWords →
    (a.toNat < s.pc ∨ s.pc + 3 < a.toNat) → ∀ p ∈ ([
      (.jmp a, true), (.boc a, s.acpb), (.bnc a, !s.acpb)] : List (Instr × Bool)),
    ∃ t, (andThen (execWord (wordBranch p.1 a) s) fun s1 => andThen (execWord .nops s1) fun s2 =>
        andThen (execWord .nops s2) (execWord .nops)) = .next t ∧
      t.pc = (if p.2 then a.toNat else s.pc + 4) ∧ t.pipe = none ∧ t.run = s.run ∧
      t.b = s.b ∧ t.l = s.l ∧ t.md = s.md ∧ t.mc = s.mc ∧ t.br = s.br ∧ t.lr = s.lr ∧
      t.acc = s.acc ∧ t.outs = s.outs ∧ t.dlyi = s.dlyi ∧ t.data = s.data ∧ t.coef = s.coef ∧
      t.dreg0 = s.dreg0

/-- After a STOP the three all-NOP words pass and the machine is stopped (R44, R162, R166). -/
def Obligations.StopTakesFourClocks : Prop :=
  ∀ s : State, s.pipe = none →
    ∃ t, (andThen (execWord (wordAlu1 .stop) s) fun s1 => andThen (execWord .nops s1) fun s2 =>
        andThen (execWord .nops s2) fun s3 => execWord .nops s3) = .next t ∧
      t.run = .stopped ∧ t.pipe = none ∧ t.pc = s.pc + 4

/-! ### Stops -/

/-- The pipe of a PC operation: while it is not clear an all-NOP word passes, counts it down and,
when the last of the three passes, carries out the branch or the STOP; a word that holds only a
DLYPTR counts as all-NOP (R280); any other word faults (R42, R162, R169). -/
def Obligations.PipePasses : Prop :=
  ∀ (s : State) (p : Pipe), s.pipe = some p →
    execWord .nops s = .next
      (if p.remaining ≤ 1 then
        { ticked s with
          pipe := none
          pc := (match p.target with
            | some a => a.toNat
            | none => s.pc + 1)
          run := if p.stop then .stopped else s.run }
       else { ticked s with pipe := some { p with remaining := p.remaining - 1 } }) ∧
    (∀ ptr, execWord (wordMop3 (.dlyptr ptr)) s = execWord .nops s) ∧
    ∀ w : InsnWord, w ≠ .nops → (∀ ptr, w ≠ wordMop3 (.dlyptr ptr)) →
      execWord w s = .fault (.pipeNotClear ⟨s.pc, s.now⟩)

/-- The malformed PC-operation words, which the spec decides to fault (D11, log 25): another
operation in ALU2, MOP1 or MOP2; JMP, BOC, BNC without their PCADDR; STOP with a MOP3 that is none
of NOP, PCADDR and DLYPTR, which counts as NOP (R280); PCADDR without a PC operation; a target in
the operation's own four words (R161). -/
def Obligations.PcOpMalformed : Prop :=
  ∀ (s : State) (w : InsnWord) (a : Addr), s.pipe = none →
    (w.alu1 ∈ ([.jmp a, .boc a, .bnc a, .stop] : List Instr) →
      (w.alu2 ≠ .nopAlu2 ∨ w.mop1 ≠ .nopMop1 ∨ w.mop2 ≠ .nopMop2) →
      execWord w s = .fault (.pcOpMalformed ⟨s.pc, s.now⟩)) ∧
    (w.alu1 ∈ ([.jmp a, .boc a, .bnc a] : List Instr) → (∀ b, w.mop3 ≠ .pcaddr b) →
      execWord w s = .fault (.pcOpMalformed ⟨s.pc, s.now⟩)) ∧
    (w.alu1 = .stop → w.mop3 ≠ .nopMop3 → (∀ b, w.mop3 ≠ .pcaddr b) →
      (∀ b, w.mop3 ≠ .dlyptr b) →
      execWord w s = .fault (.pcOpMalformed ⟨s.pc, s.now⟩)) ∧
    (w.mop3 = .pcaddr a → (∀ b, w.alu1 ∉ ([.jmp b, .boc b, .bnc b, .stop] : List Instr)) →
      execWord w s = .fault (.pcOpMalformed ⟨s.pc, s.now⟩)) ∧
    (s.pc ≤ a.toNat → a.toNat ≤ s.pc + 3 →
      (∀ i ∈ ([.jmp a, .boc a, .bnc a] : List Instr),
        exec i s = .fault (.pcOpMalformed ⟨s.pc, s.now⟩) ∧
        execWord (wordBranch i a) s = .fault (.pcOpMalformed ⟨s.pc, s.now⟩)))

/-- A load of MC from DATA memory beside a load of L from COEF memory faults, whatever the other
fields are but for the checks that come before; and no other pairing raises this fault (R238). -/
def Obligations.BusConflict : Prop :=
  ∀ (s : State) (w : InsnWord),
    (s.pipe = none → isPcOp w.alu1 = false → isPcaddr w.mop3 = false →
      (∃ a, w.mop1 = .ldDataMc a) → (∃ c, w.mop2 = .ldCoefL c) →
      execWord w s = .fault (.busConflict ⟨s.pc, s.now⟩)) ∧
    (∀ x, execWord w s = .fault (.busConflict x) →
      (∃ a, w.mop1 = .ldDataMc a) ∧ ∃ c, w.mop2 = .ldCoefL c)

/-- A DLYI write without a DLYPTR in its word faults (R283, the spec's decision D33, log 25). -/
def Obligations.DelayPointerMissing : Prop :=
  ∀ (s : State) (w : InsnWord), s.pipe = none → pcFormBad w = false → busConflict w = false →
    w.alu2 ∈ ([.addBrMrNoneDlyi, .addBrLrNoneDlyi, .addAccMrNoneDlyi, .addAccLrNoneDlyi] :
      List Instr) → (∀ p, w.mop3 ≠ .dlyptr p) →
    execWord w s = .fault (.delayPointerMissing ⟨s.pc, s.now⟩)

/-- A word of several operations that passes the checks before, each of whose operations goes
through on the state before the word, with nothing scheduled: when no two fields write one register
it completes, every write that an operation schedules there stands in the next state, so that each
result is that of the state before the word, and a register that no operation writes keeps its value
(R12, R350); when two fields write one register it faults with such a register (R47, the spec's
decision D10; the two CLRACC do not count). For every pair of fields that can meet, one word with
the register it names: ALU2 and MOP1 on B, L, MD and MC, ALU2 and MOP2 on L and MC, MOP1 and MOP2 on
MC and L, ALU1 CLRACC and an ADD to ACC. The schedule is the model's form of R12(b) (log 14), and so
is which of several such registers is named (log 17). -/
def Obligations.WriteConflict : Prop :=
  (∀ (w : InsnWord) (s : State), w.slotsOk = true → wordFault w s = none →
    unwrittenFault w s = none →
    (∀ n : Fin 5, ∃ u, exec (fieldOp w n) (issue w s) = .next u) →
    ((∀ r, ¬ WrittenTwice r w s) → ∃ t, execWord w s = .next t ∧
      (∀ (n : Fin 5) (u : State), exec (fieldOp w n) (issue w s) = .next u → Landed u.sched t) ∧
      (∀ r, (∀ n : Fin 5, ¬ WritesReg r (fieldOp w n) (issue w s)) → Kept r s t)) ∧
    ((∃ r, WrittenTwice r w s) →
      ∃ r, WrittenTwice r w s ∧ execWord w s = .fault (.writeConflict r ⟨s.pc, s.now⟩))) ∧
  (∀ (s : State) (a c : Addr) (v : Data) (x : Coef), s.pipe = none → DataLoadable a v s →
    CoefLoadable c x s →
    ∀ p ∈ ([
      (⟨.nopAlu1, .addAccZeroNoneB, .ldDataB a, .nopMop2, .nopMop3⟩, .b),
      (⟨.nopAlu1, .addAccMrNoneL, .ldDataBl a, .nopMop2, .nopMop3⟩, .l),
      (⟨.nopAlu1, .addAccMrNoneMdb, .ldDataMd a, .nopMop2, .nopMop3⟩, .md),
      (⟨.nopAlu1, .addBrZeroNoneMc, .ldDataMc a, .nopMop2, .nopMop3⟩, .mc),
      (⟨.nopAlu1, .addBrMrNoneL, .nopMop1, .ldCoefL c, .nopMop3⟩, .l),
      (⟨.nopAlu1, .addBrMrNoneMc, .nopMop1, .ldCoefMc c, .nopMop3⟩, .mc),
      (⟨.nopAlu1, .nopAlu2, .ldDataMc a, .ldCoefMc c, .nopMop3⟩, .mc),
      (⟨.nopAlu1, .nopAlu2, .ldDataL a, .ldCoefL c, .nopMop3⟩, .l),
      (⟨.clraccAlu1, .addAccMrNoneAcc, .nopMop1, .nopMop2, .nopMop3⟩, .acc)] :
      List (InsnWord × RegName)),
    execWord p.1 s = .fault (.writeConflict p.2 ⟨s.pc, s.now⟩))

/-- Loads that stop, the conditional ones whose condition holds among them, in the order of R80
(D12, D20; logs 4, 16): an address past the end or a special location that is not the LFSR; the word
stored by the word before or by this word; a word that nothing has written (R80, R82, R83, R84,
R48). -/
def Obligations.LoadsThatStop : Prop :=
  ∀ (s : State) (a : Addr),
    (∀ p ∈ dataLoads s.acpb a,
      (a = 0x2BC ∨ a = 0x2BD ∨ a = 0x2BE ∨ (a ≠ 0x301 ∧ s.cfg.dataWords ≤ a.toNat) →
        exec p.1 s = .fault (.addressOutOfRange .data a ⟨s.pc, s.now⟩)) ∧
      (DataStorable a s → s.lastStore = some (.data, a) ∨ s.sched.storeTo = some (.data, a) →
        exec p.1 s = .fault (.loadAfterStore .data a ⟨s.pc, s.now⟩)) ∧
      (DataStorable a s → s.lastStore ≠ some (.data, a) → s.sched.storeTo ≠ some (.data, a) →
        Memory.read s.data a.toNat = none →
        exec p.1 s = .fault (.unwrittenRead (.data a.toNat) ⟨s.pc, s.now⟩))) ∧
    (∀ p ∈ coefLoads s.acpb a,
      (s.cfg.coefWords ≤ a.toNat →
        exec p.1 s = .fault (.addressOutOfRange .coef a ⟨s.pc, s.now⟩)) ∧
      (a.toNat < s.cfg.coefWords →
        s.lastStore = some (.coef, a) ∨ s.sched.storeTo = some (.coef, a) →
        exec p.1 s = .fault (.loadAfterStore .coef a ⟨s.pc, s.now⟩)) ∧
      (a.toNat < s.cfg.coefWords → s.lastStore ≠ some (.coef, a) →
        s.sched.storeTo ≠ some (.coef, a) → Memory.read s.coef a.toNat = none →
        exec p.1 s = .fault (.unwrittenRead (.coef a.toNat) ⟨s.pc, s.now⟩)))

/-- Stores that stop: to the LFSR, the seed, PC START, or past the end, of every source, DLYO too
when it is ready; and a DLYO store fewer than 13 clocks after the DLYI write, or with none in the
frame (R81, R84, R271, R285; the spec's decisions D20, D24; the clocks are counted as in log 23). -/
def Obligations.StoresThatStop : Prop :=
  ∀ (s : State) (a : Addr),
    (a = 0x301 ∨ a = 0x2BC ∨ a = 0x2BD ∨ (a ≠ 0x2BE ∧ s.cfg.dataWords ≤ a.toNat) →
      (∀ i ∈ ([.stMdData a, .stBData a, .stLData a, .stDiData a, .stVolData a] : List Instr),
        exec i s = .fault (.addressOutOfRange .data a ⟨s.pc, s.now⟩)) ∧
      ((∃ n, s.dlyAge = some n ∧ 13 ≤ n) →
        exec (.stDlyoData a) s = .fault (.addressOutOfRange .data a ⟨s.pc, s.now⟩))) ∧
    (s.cfg.coefWords ≤ a.toNat →
      ∀ i ∈ ([.stMdCoef a, .stBCoef a, .stLCoef a] : List Instr),
        exec i s = .fault (.addressOutOfRange .coef a ⟨s.pc, s.now⟩)) ∧
    (s.dlyAge = none ∨ (∃ n, s.dlyAge = some n ∧ n < 13) →
      exec (.stDlyoData a) s = .fault (.delayTooEarly s.dlyAge ⟨s.pc, s.now⟩))

/-- A running machine whose PC, by advancing or by a branch, is past the end of the instruction
memory faults in the clock in which that word would execute; and JMP, BOC and BNC whose target is
past the end fault, taken or not, in their own clock (R78, R168; D31; the moment is the model's, log
22). -/
def Obligations.PcOutOfRange : Prop :=
  ∀ s : State,
    (s.frameClock < s.cfg.cyclesPerFrame → s.run = .running → s.cfg.imemWords ≤ s.pc →
      step s = .fault (.pcOutOfRange ⟨s.pc, s.now⟩)) ∧
    ∀ a : Addr, s.cfg.imemWords ≤ a.toNat → (a.toNat < s.pc ∨ s.pc + 3 < a.toNat) →
      ∀ i ∈ ([.jmp a, .boc a, .bnc a] : List Instr),
        exec i s = .fault (.pcOutOfRange ⟨s.pc, s.now⟩) ∧
        (s.pipe = none → execWord (wordBranch i a) s = .fault (.pcOutOfRange ⟨s.pc, s.now⟩))

/-! ### Rules of the whole machine -/

/-- Who writes a register, in a word of any fields that completes: BR and LR change only by the ALU1
operations on B and on L; ACC only by CLRACC, an ADD to ACC and MDB; B, L, MD and MC only by an ADD
to them and by a load into them that is not skipped; a DO register only by an ADD to it; A_CP_B only
by the result that was pending; and a new result is pending only after a COMP (R21 to R26, R28, R32,
R34, R40, R46, R130). -/
def Obligations.RegisterWriters : Prop :=
  ∀ (w : InsnWord) (s t : State), w.slotsOk = true → execWord w s = .next t →
    (w.alu1 ∉ ([.absB, .negB, .thruB, .shr1, .shr2, .shr3, .shr4, .shl1, .shl2, .shl3, .shl4,
      .shl20] : List Instr) → t.br = s.br) ∧
    (w.alu1 ∉ ([.absL, .negL, .thruL, .log2, .alog2] : List Instr) → t.lr = s.lr) ∧
    (w.alu1 ≠ .clraccAlu1 → w.alu2 ∉ ([.clraccAlu2, .addBrMrNoneAcc, .addAccMrNoneAcc,
      .addAccLrNoneAcc, .addAccMrNoneMdb] : List Instr) → t.acc = s.acc) ∧
    (w.alu2 ∉ ([.addBrMrNoneB, .addBrLrNoneB, .addAccMrNoneB, .addAccLrNoneB, .addAccZeroNoneB,
        .addBrZeroNoneB, .addBrZeroClp32B, .addAccZeroClp28B, .addAccMrNoneMdb] : List Instr) →
      (∀ a, w.mop1 ∉ ([.ldDataB a, .ldDataBl a, if s.acpb then .ldcDataB a else .lncDataB a] :
        List Instr)) → t.b = s.b) ∧
    (w.alu2 ∉ ([.addBrMrNoneL, .addBrLrNoneL, .addAccMrNoneL, .addAccLrNoneL, .addAccZeroNoneL,
        .addBrZeroNoneL, .addAccZeroClp28L] : List Instr) →
      (∀ a, w.mop1 ∉ ([.ldDataL a, .ldDataBl a, if s.acpb then .ldcDataL a else .lncDataL a] :
        List Instr)) → (∀ a, w.mop2 ≠ .ldCoefL a) → t.l = s.l) ∧
    (w.alu2 ∉ ([.addBrMrNoneMd, .addBrLrNoneMd, .addAccMrNoneMd, .addAccLrNoneMd,
        .addAccZeroNoneMd, .addBrZeroNoneMd, .addAccMrNoneMdb] : List Instr) →
      (∀ a, w.mop1 ∉ ([.ldDataMd a, if s.acpb then .ldcDataMd a else .lncDataMd a] :
        List Instr)) → t.md = s.md) ∧
    (w.alu2 ∉ ([.addBrMrNoneMc, .addBrLrNoneMc, .addAccMrNoneMc, .addAccLrNoneMc,
        .addBrZeroNoneMc, .addAccZeroClp28Mc] : List Instr) →
      (∀ a, w.mop1 ≠ .ldDataMc a) →
      (∀ a, w.mop2 ∉ ([.ldCoefMc a, if s.acpb then .ldcCoefMc a else .lncCoefMc a] :
        List Instr)) → t.mc = s.mc) ∧
    (∀ k : Fin 8, w.alu2 ∉ outputForms k → t.outs[k] = s.outs[k]) ∧
    t.acpb = s.pend.getD s.acpb ∧
    (w.alu2 ∉ ([.compBrMr, .compBrLr, .compAccMr, .compAccLr] : List Instr) → t.pend = none)

/-- Memory changes only by a store, and only at the address of the word's MOP3; the instruction
memory never changes (R81, R90, R265, R287). -/
def Obligations.OnlyStoresWriteMemory : Prop :=
  ∀ (w : InsnWord) (s t : State), w.slotsOk = true → execWord w s = .next t →
    t.imem = s.imem ∧
    (∀ x : Nat, (∀ a, storeTarget w.mop3 = some (.data, a) → x ≠ a.toNat) →
      Memory.read t.data x = Memory.read s.data x) ∧
    (∀ x : Nat, (∀ a, storeTarget w.mop3 = some (.coef, a) → x ≠ a.toNat) →
      Memory.read t.coef x = Memory.read s.coef x) ∧
    (storeTarget w.mop3 ≠ some (.data, 0x2BE) → t.dreg0 = s.dreg0) ∧
    t.lastStore = storeTarget w.mop3

/-- No step changes the instruction memory or the parameters, and none writes DATA RAM, COEF RAM,
DREG0 or a DO register while stopped but the host's waiting write (R44, R90). -/
def Obligations.StepKeepsProgram : Prop :=
  ∀ s t : State, step s = .next t →
    t.cfg = s.cfg ∧ t.imem = s.imem ∧
    (s.run = .stopped → s.hostQueue = [] →
      t.data = s.data ∧ t.coef = s.coef ∧ t.dreg0 = s.dreg0 ∧ t.outs = s.outs)

/-- The PC of a completed word: the next address, but for the last of the three words after a taken
branch; and the machine stops only when the pipe of a STOP drains (R31, R44, R166, R169). A step
that faults records the PC and the clock of the word it stops at, and no earlier or later one
(R301). -/
def Obligations.PcAndRun : Prop :=
  (∀ (s : State) (f : Fault), step s = .fault f → f.site = ⟨s.pc, s.now⟩) ∧
  ∀ (w : InsnWord) (s t : State), execWord w s = .next t →
    t.pc = (match s.pipe with
      | some ⟨n, some a, _⟩ => if n ≤ 1 then a.toNat else s.pc + 1
      | _ => s.pc + 1) ∧
    (s.run = .running → t.run = .stopped → ∃ n a, s.pipe = some ⟨n, a, true⟩ ∧ n ≤ 1) ∧
    (s.pipe = none → isPcOp w.alu1 = false → w.slotsOk = true → t.pipe = none)

/-- The delay timer: in a word that completes DLY_AGE is the clocks since the last word that wrote
DLYI, one in the clock after that word, so that with `StoresToData` and `StoresThatStop` a DLYO
store is legal 13 clocks after the DLYI write and not before; no other word writes DLYI or hands the
delay memory a value (R37, R43, R280, R285). The numbering is the model's reading, log 23. -/
def Obligations.DelayTimer : Prop :=
  ∀ (w : InsnWord) (s t : State), w.slotsOk = true → execWord w s = .next t →
    (w.alu2 ∈ ([.addBrMrNoneDlyi, .addBrLrNoneDlyi, .addAccMrNoneDlyi, .addAccLrNoneDlyi] :
        List Instr) →
      t.dlyAge = some 1 ∧ ∃ ptr, w.mop3 = .dlyptr ptr ∧ t.dlyPtr = ptr ∧
        t.delayLog = (ptr, t.dlyi) :: s.delayLog) ∧
    (w.alu2 ∉ ([.addBrMrNoneDlyi, .addBrLrNoneDlyi, .addAccMrNoneDlyi, .addAccLrNoneDlyi] :
        List Instr) →
      t.dlyAge = s.dlyAge.map (· + 1) ∧ t.dlyi = s.dlyi ∧ t.dlyPtr = s.dlyPtr ∧
      t.delayLog = s.delayLog)
end

