-- ==== Sys2Proof/Laws/State.lean ====
section
/-! SUPPORT. One lemma per field per update of the state, true by `rfl`: a scheduled write leaves
every field but `sched`, and what `settle`, `idleClock` and `frameRestart` leave alone. -/

namespace Sys2Proof.Machine

/-! ### setB -/

@[simp] theorem setB_cfg (v : Data) (s : State) : (setB v s).cfg = s.cfg := rfl
@[simp] theorem setB_b (v : Data) (s : State) : (setB v s).b = s.b := rfl
@[simp] theorem setB_l (v : Data) (s : State) : (setB v s).l = s.l := rfl
@[simp] theorem setB_md (v : Data) (s : State) : (setB v s).md = s.md := rfl
@[simp] theorem setB_mc (v : Data) (s : State) : (setB v s).mc = s.mc := rfl
@[simp] theorem setB_br (v : Data) (s : State) : (setB v s).br = s.br := rfl
@[simp] theorem setB_lr (v : Data) (s : State) : (setB v s).lr = s.lr := rfl
@[simp] theorem setB_mr (v : Data) (s : State) : (setB v s).mr = s.mr := rfl
@[simp] theorem setB_acc (v : Data) (s : State) : (setB v s).acc = s.acc := rfl
@[simp] theorem setB_pc (v : Data) (s : State) : (setB v s).pc = s.pc := rfl
@[simp] theorem setB_acpb (v : Data) (s : State) : (setB v s).acpb = s.acpb := rfl
@[simp] theorem setB_di (v : Data) (s : State) : (setB v s).di = s.di := rfl
@[simp] theorem setB_outs (v : Data) (s : State) : (setB v s).outs = s.outs := rfl
@[simp] theorem setB_vol (v : Data) (s : State) : (setB v s).vol = s.vol := rfl
@[simp] theorem setB_lfs (v : Data) (s : State) : (setB v s).lfs = s.lfs := rfl
@[simp] theorem setB_dlyi (v : Data) (s : State) : (setB v s).dlyi = s.dlyi := rfl
@[simp] theorem setB_dlyo (v : Data) (s : State) : (setB v s).dlyo = s.dlyo := rfl
@[simp] theorem setB_dlyPtr (v : Data) (s : State) : (setB v s).dlyPtr = s.dlyPtr := rfl
@[simp] theorem setB_pend (v : Data) (s : State) : (setB v s).pend = s.pend := rfl
@[simp] theorem setB_lastStore (v : Data) (s : State) : (setB v s).lastStore = s.lastStore := rfl
@[simp] theorem setB_pipe (v : Data) (s : State) : (setB v s).pipe = s.pipe := rfl
@[simp] theorem setB_dlyAge (v : Data) (s : State) : (setB v s).dlyAge = s.dlyAge := rfl
@[simp] theorem setB_run (v : Data) (s : State) : (setB v s).run = s.run := rfl
@[simp] theorem setB_data (v : Data) (s : State) : (setB v s).data = s.data := rfl
@[simp] theorem setB_coef (v : Data) (s : State) : (setB v s).coef = s.coef := rfl
@[simp] theorem setB_imem (v : Data) (s : State) : (setB v s).imem = s.imem := rfl
@[simp] theorem setB_delayLog (v : Data) (s : State) : (setB v s).delayLog = s.delayLog := rfl
@[simp] theorem setB_dreg0 (v : Data) (s : State) : (setB v s).dreg0 = s.dreg0 := rfl
@[simp] theorem setB_lfsrSeed (v : Data) (s : State) : (setB v s).lfsrSeed = s.lfsrSeed := rfl
@[simp] theorem setB_pcStart (v : Data) (s : State) : (setB v s).pcStart = s.pcStart := rfl
@[simp] theorem setB_esfr (v : Data) (s : State) : (setB v s).esfr = s.esfr := rfl
@[simp] theorem setB_hostQueue (v : Data) (s : State) : (setB v s).hostQueue = s.hostQueue := rfl
@[simp] theorem setB_frameClock (v : Data) (s : State) : (setB v s).frameClock = s.frameClock := rfl
@[simp] theorem setB_frame (v : Data) (s : State) : (setB v s).frame = s.frame := rfl
@[simp] theorem setB_now (v : Data) (s : State) : (setB v s).now = s.now := rfl

/-! ### setL -/

@[simp] theorem setL_cfg (v : Data) (s : State) : (setL v s).cfg = s.cfg := rfl
@[simp] theorem setL_b (v : Data) (s : State) : (setL v s).b = s.b := rfl
@[simp] theorem setL_l (v : Data) (s : State) : (setL v s).l = s.l := rfl
@[simp] theorem setL_md (v : Data) (s : State) : (setL v s).md = s.md := rfl
@[simp] theorem setL_mc (v : Data) (s : State) : (setL v s).mc = s.mc := rfl
@[simp] theorem setL_br (v : Data) (s : State) : (setL v s).br = s.br := rfl
@[simp] theorem setL_lr (v : Data) (s : State) : (setL v s).lr = s.lr := rfl
@[simp] theorem setL_mr (v : Data) (s : State) : (setL v s).mr = s.mr := rfl
@[simp] theorem setL_acc (v : Data) (s : State) : (setL v s).acc = s.acc := rfl
@[simp] theorem setL_pc (v : Data) (s : State) : (setL v s).pc = s.pc := rfl
@[simp] theorem setL_acpb (v : Data) (s : State) : (setL v s).acpb = s.acpb := rfl
@[simp] theorem setL_di (v : Data) (s : State) : (setL v s).di = s.di := rfl
@[simp] theorem setL_outs (v : Data) (s : State) : (setL v s).outs = s.outs := rfl
@[simp] theorem setL_vol (v : Data) (s : State) : (setL v s).vol = s.vol := rfl
@[simp] theorem setL_lfs (v : Data) (s : State) : (setL v s).lfs = s.lfs := rfl
@[simp] theorem setL_dlyi (v : Data) (s : State) : (setL v s).dlyi = s.dlyi := rfl
@[simp] theorem setL_dlyo (v : Data) (s : State) : (setL v s).dlyo = s.dlyo := rfl
@[simp] theorem setL_dlyPtr (v : Data) (s : State) : (setL v s).dlyPtr = s.dlyPtr := rfl
@[simp] theorem setL_pend (v : Data) (s : State) : (setL v s).pend = s.pend := rfl
@[simp] theorem setL_lastStore (v : Data) (s : State) : (setL v s).lastStore = s.lastStore := rfl
@[simp] theorem setL_pipe (v : Data) (s : State) : (setL v s).pipe = s.pipe := rfl
@[simp] theorem setL_dlyAge (v : Data) (s : State) : (setL v s).dlyAge = s.dlyAge := rfl
@[simp] theorem setL_run (v : Data) (s : State) : (setL v s).run = s.run := rfl
@[simp] theorem setL_data (v : Data) (s : State) : (setL v s).data = s.data := rfl
@[simp] theorem setL_coef (v : Data) (s : State) : (setL v s).coef = s.coef := rfl
@[simp] theorem setL_imem (v : Data) (s : State) : (setL v s).imem = s.imem := rfl
@[simp] theorem setL_delayLog (v : Data) (s : State) : (setL v s).delayLog = s.delayLog := rfl
@[simp] theorem setL_dreg0 (v : Data) (s : State) : (setL v s).dreg0 = s.dreg0 := rfl
@[simp] theorem setL_lfsrSeed (v : Data) (s : State) : (setL v s).lfsrSeed = s.lfsrSeed := rfl
@[simp] theorem setL_pcStart (v : Data) (s : State) : (setL v s).pcStart = s.pcStart := rfl
@[simp] theorem setL_esfr (v : Data) (s : State) : (setL v s).esfr = s.esfr := rfl
@[simp] theorem setL_hostQueue (v : Data) (s : State) : (setL v s).hostQueue = s.hostQueue := rfl
@[simp] theorem setL_frameClock (v : Data) (s : State) : (setL v s).frameClock = s.frameClock := rfl
@[simp] theorem setL_frame (v : Data) (s : State) : (setL v s).frame = s.frame := rfl
@[simp] theorem setL_now (v : Data) (s : State) : (setL v s).now = s.now := rfl

/-! ### setMd -/

@[simp] theorem setMd_cfg (v : Data) (s : State) : (setMd v s).cfg = s.cfg := rfl
@[simp] theorem setMd_b (v : Data) (s : State) : (setMd v s).b = s.b := rfl
@[simp] theorem setMd_l (v : Data) (s : State) : (setMd v s).l = s.l := rfl
@[simp] theorem setMd_md (v : Data) (s : State) : (setMd v s).md = s.md := rfl
@[simp] theorem setMd_mc (v : Data) (s : State) : (setMd v s).mc = s.mc := rfl
@[simp] theorem setMd_br (v : Data) (s : State) : (setMd v s).br = s.br := rfl
@[simp] theorem setMd_lr (v : Data) (s : State) : (setMd v s).lr = s.lr := rfl
@[simp] theorem setMd_mr (v : Data) (s : State) : (setMd v s).mr = s.mr := rfl
@[simp] theorem setMd_acc (v : Data) (s : State) : (setMd v s).acc = s.acc := rfl
@[simp] theorem setMd_pc (v : Data) (s : State) : (setMd v s).pc = s.pc := rfl
@[simp] theorem setMd_acpb (v : Data) (s : State) : (setMd v s).acpb = s.acpb := rfl
@[simp] theorem setMd_di (v : Data) (s : State) : (setMd v s).di = s.di := rfl
@[simp] theorem setMd_outs (v : Data) (s : State) : (setMd v s).outs = s.outs := rfl
@[simp] theorem setMd_vol (v : Data) (s : State) : (setMd v s).vol = s.vol := rfl
@[simp] theorem setMd_lfs (v : Data) (s : State) : (setMd v s).lfs = s.lfs := rfl
@[simp] theorem setMd_dlyi (v : Data) (s : State) : (setMd v s).dlyi = s.dlyi := rfl
@[simp] theorem setMd_dlyo (v : Data) (s : State) : (setMd v s).dlyo = s.dlyo := rfl
@[simp] theorem setMd_dlyPtr (v : Data) (s : State) : (setMd v s).dlyPtr = s.dlyPtr := rfl
@[simp] theorem setMd_pend (v : Data) (s : State) : (setMd v s).pend = s.pend := rfl
@[simp] theorem setMd_lastStore (v : Data) (s : State) : (setMd v s).lastStore = s.lastStore := rfl
@[simp] theorem setMd_pipe (v : Data) (s : State) : (setMd v s).pipe = s.pipe := rfl
@[simp] theorem setMd_dlyAge (v : Data) (s : State) : (setMd v s).dlyAge = s.dlyAge := rfl
@[simp] theorem setMd_run (v : Data) (s : State) : (setMd v s).run = s.run := rfl
@[simp] theorem setMd_data (v : Data) (s : State) : (setMd v s).data = s.data := rfl
@[simp] theorem setMd_coef (v : Data) (s : State) : (setMd v s).coef = s.coef := rfl
@[simp] theorem setMd_imem (v : Data) (s : State) : (setMd v s).imem = s.imem := rfl
@[simp] theorem setMd_delayLog (v : Data) (s : State) : (setMd v s).delayLog = s.delayLog := rfl
@[simp] theorem setMd_dreg0 (v : Data) (s : State) : (setMd v s).dreg0 = s.dreg0 := rfl
@[simp] theorem setMd_lfsrSeed (v : Data) (s : State) : (setMd v s).lfsrSeed = s.lfsrSeed := rfl
@[simp] theorem setMd_pcStart (v : Data) (s : State) : (setMd v s).pcStart = s.pcStart := rfl
@[simp] theorem setMd_esfr (v : Data) (s : State) : (setMd v s).esfr = s.esfr := rfl
@[simp] theorem setMd_hostQueue (v : Data) (s : State) : (setMd v s).hostQueue = s.hostQueue := rfl
@[simp] theorem setMd_frameClock (v : Data) (s : State) : (setMd v s).frameClock = s.frameClock := rfl
@[simp] theorem setMd_frame (v : Data) (s : State) : (setMd v s).frame = s.frame := rfl
@[simp] theorem setMd_now (v : Data) (s : State) : (setMd v s).now = s.now := rfl

/-! ### setMc -/

@[simp] theorem setMc_cfg (v : Coef) (s : State) : (setMc v s).cfg = s.cfg := rfl
@[simp] theorem setMc_b (v : Coef) (s : State) : (setMc v s).b = s.b := rfl
@[simp] theorem setMc_l (v : Coef) (s : State) : (setMc v s).l = s.l := rfl
@[simp] theorem setMc_md (v : Coef) (s : State) : (setMc v s).md = s.md := rfl
@[simp] theorem setMc_mc (v : Coef) (s : State) : (setMc v s).mc = s.mc := rfl
@[simp] theorem setMc_br (v : Coef) (s : State) : (setMc v s).br = s.br := rfl
@[simp] theorem setMc_lr (v : Coef) (s : State) : (setMc v s).lr = s.lr := rfl
@[simp] theorem setMc_mr (v : Coef) (s : State) : (setMc v s).mr = s.mr := rfl
@[simp] theorem setMc_acc (v : Coef) (s : State) : (setMc v s).acc = s.acc := rfl
@[simp] theorem setMc_pc (v : Coef) (s : State) : (setMc v s).pc = s.pc := rfl
@[simp] theorem setMc_acpb (v : Coef) (s : State) : (setMc v s).acpb = s.acpb := rfl
@[simp] theorem setMc_di (v : Coef) (s : State) : (setMc v s).di = s.di := rfl
@[simp] theorem setMc_outs (v : Coef) (s : State) : (setMc v s).outs = s.outs := rfl
@[simp] theorem setMc_vol (v : Coef) (s : State) : (setMc v s).vol = s.vol := rfl
@[simp] theorem setMc_lfs (v : Coef) (s : State) : (setMc v s).lfs = s.lfs := rfl
@[simp] theorem setMc_dlyi (v : Coef) (s : State) : (setMc v s).dlyi = s.dlyi := rfl
@[simp] theorem setMc_dlyo (v : Coef) (s : State) : (setMc v s).dlyo = s.dlyo := rfl
@[simp] theorem setMc_dlyPtr (v : Coef) (s : State) : (setMc v s).dlyPtr = s.dlyPtr := rfl
@[simp] theorem setMc_pend (v : Coef) (s : State) : (setMc v s).pend = s.pend := rfl
@[simp] theorem setMc_lastStore (v : Coef) (s : State) : (setMc v s).lastStore = s.lastStore := rfl
@[simp] theorem setMc_pipe (v : Coef) (s : State) : (setMc v s).pipe = s.pipe := rfl
@[simp] theorem setMc_dlyAge (v : Coef) (s : State) : (setMc v s).dlyAge = s.dlyAge := rfl
@[simp] theorem setMc_run (v : Coef) (s : State) : (setMc v s).run = s.run := rfl
@[simp] theorem setMc_data (v : Coef) (s : State) : (setMc v s).data = s.data := rfl
@[simp] theorem setMc_coef (v : Coef) (s : State) : (setMc v s).coef = s.coef := rfl
@[simp] theorem setMc_imem (v : Coef) (s : State) : (setMc v s).imem = s.imem := rfl
@[simp] theorem setMc_delayLog (v : Coef) (s : State) : (setMc v s).delayLog = s.delayLog := rfl
@[simp] theorem setMc_dreg0 (v : Coef) (s : State) : (setMc v s).dreg0 = s.dreg0 := rfl
@[simp] theorem setMc_lfsrSeed (v : Coef) (s : State) : (setMc v s).lfsrSeed = s.lfsrSeed := rfl
@[simp] theorem setMc_pcStart (v : Coef) (s : State) : (setMc v s).pcStart = s.pcStart := rfl
@[simp] theorem setMc_esfr (v : Coef) (s : State) : (setMc v s).esfr = s.esfr := rfl
@[simp] theorem setMc_hostQueue (v : Coef) (s : State) : (setMc v s).hostQueue = s.hostQueue := rfl
@[simp] theorem setMc_frameClock (v : Coef) (s : State) : (setMc v s).frameClock = s.frameClock := rfl
@[simp] theorem setMc_frame (v : Coef) (s : State) : (setMc v s).frame = s.frame := rfl
@[simp] theorem setMc_now (v : Coef) (s : State) : (setMc v s).now = s.now := rfl

/-! ### setBr -/

@[simp] theorem setBr_cfg (v : Data) (s : State) : (setBr v s).cfg = s.cfg := rfl
@[simp] theorem setBr_b (v : Data) (s : State) : (setBr v s).b = s.b := rfl
@[simp] theorem setBr_l (v : Data) (s : State) : (setBr v s).l = s.l := rfl
@[simp] theorem setBr_md (v : Data) (s : State) : (setBr v s).md = s.md := rfl
@[simp] theorem setBr_mc (v : Data) (s : State) : (setBr v s).mc = s.mc := rfl
@[simp] theorem setBr_br (v : Data) (s : State) : (setBr v s).br = s.br := rfl
@[simp] theorem setBr_lr (v : Data) (s : State) : (setBr v s).lr = s.lr := rfl
@[simp] theorem setBr_mr (v : Data) (s : State) : (setBr v s).mr = s.mr := rfl
@[simp] theorem setBr_acc (v : Data) (s : State) : (setBr v s).acc = s.acc := rfl
@[simp] theorem setBr_pc (v : Data) (s : State) : (setBr v s).pc = s.pc := rfl
@[simp] theorem setBr_acpb (v : Data) (s : State) : (setBr v s).acpb = s.acpb := rfl
@[simp] theorem setBr_di (v : Data) (s : State) : (setBr v s).di = s.di := rfl
@[simp] theorem setBr_outs (v : Data) (s : State) : (setBr v s).outs = s.outs := rfl
@[simp] theorem setBr_vol (v : Data) (s : State) : (setBr v s).vol = s.vol := rfl
@[simp] theorem setBr_lfs (v : Data) (s : State) : (setBr v s).lfs = s.lfs := rfl
@[simp] theorem setBr_dlyi (v : Data) (s : State) : (setBr v s).dlyi = s.dlyi := rfl
@[simp] theorem setBr_dlyo (v : Data) (s : State) : (setBr v s).dlyo = s.dlyo := rfl
@[simp] theorem setBr_dlyPtr (v : Data) (s : State) : (setBr v s).dlyPtr = s.dlyPtr := rfl
@[simp] theorem setBr_pend (v : Data) (s : State) : (setBr v s).pend = s.pend := rfl
@[simp] theorem setBr_lastStore (v : Data) (s : State) : (setBr v s).lastStore = s.lastStore := rfl
@[simp] theorem setBr_pipe (v : Data) (s : State) : (setBr v s).pipe = s.pipe := rfl
@[simp] theorem setBr_dlyAge (v : Data) (s : State) : (setBr v s).dlyAge = s.dlyAge := rfl
@[simp] theorem setBr_run (v : Data) (s : State) : (setBr v s).run = s.run := rfl
@[simp] theorem setBr_data (v : Data) (s : State) : (setBr v s).data = s.data := rfl
@[simp] theorem setBr_coef (v : Data) (s : State) : (setBr v s).coef = s.coef := rfl
@[simp] theorem setBr_imem (v : Data) (s : State) : (setBr v s).imem = s.imem := rfl
@[simp] theorem setBr_delayLog (v : Data) (s : State) : (setBr v s).delayLog = s.delayLog := rfl
@[simp] theorem setBr_dreg0 (v : Data) (s : State) : (setBr v s).dreg0 = s.dreg0 := rfl
@[simp] theorem setBr_lfsrSeed (v : Data) (s : State) : (setBr v s).lfsrSeed = s.lfsrSeed := rfl
@[simp] theorem setBr_pcStart (v : Data) (s : State) : (setBr v s).pcStart = s.pcStart := rfl
@[simp] theorem setBr_esfr (v : Data) (s : State) : (setBr v s).esfr = s.esfr := rfl
@[simp] theorem setBr_hostQueue (v : Data) (s : State) : (setBr v s).hostQueue = s.hostQueue := rfl
@[simp] theorem setBr_frameClock (v : Data) (s : State) : (setBr v s).frameClock = s.frameClock := rfl
@[simp] theorem setBr_frame (v : Data) (s : State) : (setBr v s).frame = s.frame := rfl
@[simp] theorem setBr_now (v : Data) (s : State) : (setBr v s).now = s.now := rfl

/-! ### setLr -/

@[simp] theorem setLr_cfg (v : Data) (s : State) : (setLr v s).cfg = s.cfg := rfl
@[simp] theorem setLr_b (v : Data) (s : State) : (setLr v s).b = s.b := rfl
@[simp] theorem setLr_l (v : Data) (s : State) : (setLr v s).l = s.l := rfl
@[simp] theorem setLr_md (v : Data) (s : State) : (setLr v s).md = s.md := rfl
@[simp] theorem setLr_mc (v : Data) (s : State) : (setLr v s).mc = s.mc := rfl
@[simp] theorem setLr_br (v : Data) (s : State) : (setLr v s).br = s.br := rfl
@[simp] theorem setLr_lr (v : Data) (s : State) : (setLr v s).lr = s.lr := rfl
@[simp] theorem setLr_mr (v : Data) (s : State) : (setLr v s).mr = s.mr := rfl
@[simp] theorem setLr_acc (v : Data) (s : State) : (setLr v s).acc = s.acc := rfl
@[simp] theorem setLr_pc (v : Data) (s : State) : (setLr v s).pc = s.pc := rfl
@[simp] theorem setLr_acpb (v : Data) (s : State) : (setLr v s).acpb = s.acpb := rfl
@[simp] theorem setLr_di (v : Data) (s : State) : (setLr v s).di = s.di := rfl
@[simp] theorem setLr_outs (v : Data) (s : State) : (setLr v s).outs = s.outs := rfl
@[simp] theorem setLr_vol (v : Data) (s : State) : (setLr v s).vol = s.vol := rfl
@[simp] theorem setLr_lfs (v : Data) (s : State) : (setLr v s).lfs = s.lfs := rfl
@[simp] theorem setLr_dlyi (v : Data) (s : State) : (setLr v s).dlyi = s.dlyi := rfl
@[simp] theorem setLr_dlyo (v : Data) (s : State) : (setLr v s).dlyo = s.dlyo := rfl
@[simp] theorem setLr_dlyPtr (v : Data) (s : State) : (setLr v s).dlyPtr = s.dlyPtr := rfl
@[simp] theorem setLr_pend (v : Data) (s : State) : (setLr v s).pend = s.pend := rfl
@[simp] theorem setLr_lastStore (v : Data) (s : State) : (setLr v s).lastStore = s.lastStore := rfl
@[simp] theorem setLr_pipe (v : Data) (s : State) : (setLr v s).pipe = s.pipe := rfl
@[simp] theorem setLr_dlyAge (v : Data) (s : State) : (setLr v s).dlyAge = s.dlyAge := rfl
@[simp] theorem setLr_run (v : Data) (s : State) : (setLr v s).run = s.run := rfl
@[simp] theorem setLr_data (v : Data) (s : State) : (setLr v s).data = s.data := rfl
@[simp] theorem setLr_coef (v : Data) (s : State) : (setLr v s).coef = s.coef := rfl
@[simp] theorem setLr_imem (v : Data) (s : State) : (setLr v s).imem = s.imem := rfl
@[simp] theorem setLr_delayLog (v : Data) (s : State) : (setLr v s).delayLog = s.delayLog := rfl
@[simp] theorem setLr_dreg0 (v : Data) (s : State) : (setLr v s).dreg0 = s.dreg0 := rfl
@[simp] theorem setLr_lfsrSeed (v : Data) (s : State) : (setLr v s).lfsrSeed = s.lfsrSeed := rfl
@[simp] theorem setLr_pcStart (v : Data) (s : State) : (setLr v s).pcStart = s.pcStart := rfl
@[simp] theorem setLr_esfr (v : Data) (s : State) : (setLr v s).esfr = s.esfr := rfl
@[simp] theorem setLr_hostQueue (v : Data) (s : State) : (setLr v s).hostQueue = s.hostQueue := rfl
@[simp] theorem setLr_frameClock (v : Data) (s : State) : (setLr v s).frameClock = s.frameClock := rfl
@[simp] theorem setLr_frame (v : Data) (s : State) : (setLr v s).frame = s.frame := rfl
@[simp] theorem setLr_now (v : Data) (s : State) : (setLr v s).now = s.now := rfl

/-! ### setAcc -/

@[simp] theorem setAcc_cfg (v : Acc) (s : State) : (setAcc v s).cfg = s.cfg := rfl
@[simp] theorem setAcc_b (v : Acc) (s : State) : (setAcc v s).b = s.b := rfl
@[simp] theorem setAcc_l (v : Acc) (s : State) : (setAcc v s).l = s.l := rfl
@[simp] theorem setAcc_md (v : Acc) (s : State) : (setAcc v s).md = s.md := rfl
@[simp] theorem setAcc_mc (v : Acc) (s : State) : (setAcc v s).mc = s.mc := rfl
@[simp] theorem setAcc_br (v : Acc) (s : State) : (setAcc v s).br = s.br := rfl
@[simp] theorem setAcc_lr (v : Acc) (s : State) : (setAcc v s).lr = s.lr := rfl
@[simp] theorem setAcc_mr (v : Acc) (s : State) : (setAcc v s).mr = s.mr := rfl
@[simp] theorem setAcc_acc (v : Acc) (s : State) : (setAcc v s).acc = s.acc := rfl
@[simp] theorem setAcc_pc (v : Acc) (s : State) : (setAcc v s).pc = s.pc := rfl
@[simp] theorem setAcc_acpb (v : Acc) (s : State) : (setAcc v s).acpb = s.acpb := rfl
@[simp] theorem setAcc_di (v : Acc) (s : State) : (setAcc v s).di = s.di := rfl
@[simp] theorem setAcc_outs (v : Acc) (s : State) : (setAcc v s).outs = s.outs := rfl
@[simp] theorem setAcc_vol (v : Acc) (s : State) : (setAcc v s).vol = s.vol := rfl
@[simp] theorem setAcc_lfs (v : Acc) (s : State) : (setAcc v s).lfs = s.lfs := rfl
@[simp] theorem setAcc_dlyi (v : Acc) (s : State) : (setAcc v s).dlyi = s.dlyi := rfl
@[simp] theorem setAcc_dlyo (v : Acc) (s : State) : (setAcc v s).dlyo = s.dlyo := rfl
@[simp] theorem setAcc_dlyPtr (v : Acc) (s : State) : (setAcc v s).dlyPtr = s.dlyPtr := rfl
@[simp] theorem setAcc_pend (v : Acc) (s : State) : (setAcc v s).pend = s.pend := rfl
@[simp] theorem setAcc_lastStore (v : Acc) (s : State) : (setAcc v s).lastStore = s.lastStore := rfl
@[simp] theorem setAcc_pipe (v : Acc) (s : State) : (setAcc v s).pipe = s.pipe := rfl
@[simp] theorem setAcc_dlyAge (v : Acc) (s : State) : (setAcc v s).dlyAge = s.dlyAge := rfl
@[simp] theorem setAcc_run (v : Acc) (s : State) : (setAcc v s).run = s.run := rfl
@[simp] theorem setAcc_data (v : Acc) (s : State) : (setAcc v s).data = s.data := rfl
@[simp] theorem setAcc_coef (v : Acc) (s : State) : (setAcc v s).coef = s.coef := rfl
@[simp] theorem setAcc_imem (v : Acc) (s : State) : (setAcc v s).imem = s.imem := rfl
@[simp] theorem setAcc_delayLog (v : Acc) (s : State) : (setAcc v s).delayLog = s.delayLog := rfl
@[simp] theorem setAcc_dreg0 (v : Acc) (s : State) : (setAcc v s).dreg0 = s.dreg0 := rfl
@[simp] theorem setAcc_lfsrSeed (v : Acc) (s : State) : (setAcc v s).lfsrSeed = s.lfsrSeed := rfl
@[simp] theorem setAcc_pcStart (v : Acc) (s : State) : (setAcc v s).pcStart = s.pcStart := rfl
@[simp] theorem setAcc_esfr (v : Acc) (s : State) : (setAcc v s).esfr = s.esfr := rfl
@[simp] theorem setAcc_hostQueue (v : Acc) (s : State) : (setAcc v s).hostQueue = s.hostQueue := rfl
@[simp] theorem setAcc_frameClock (v : Acc) (s : State) : (setAcc v s).frameClock = s.frameClock := rfl
@[simp] theorem setAcc_frame (v : Acc) (s : State) : (setAcc v s).frame = s.frame := rfl
@[simp] theorem setAcc_now (v : Acc) (s : State) : (setAcc v s).now = s.now := rfl

/-! ### setDlyi -/

@[simp] theorem setDlyi_cfg (v : Data) (s : State) : (setDlyi v s).cfg = s.cfg := rfl
@[simp] theorem setDlyi_b (v : Data) (s : State) : (setDlyi v s).b = s.b := rfl
@[simp] theorem setDlyi_l (v : Data) (s : State) : (setDlyi v s).l = s.l := rfl
@[simp] theorem setDlyi_md (v : Data) (s : State) : (setDlyi v s).md = s.md := rfl
@[simp] theorem setDlyi_mc (v : Data) (s : State) : (setDlyi v s).mc = s.mc := rfl
@[simp] theorem setDlyi_br (v : Data) (s : State) : (setDlyi v s).br = s.br := rfl
@[simp] theorem setDlyi_lr (v : Data) (s : State) : (setDlyi v s).lr = s.lr := rfl
@[simp] theorem setDlyi_mr (v : Data) (s : State) : (setDlyi v s).mr = s.mr := rfl
@[simp] theorem setDlyi_acc (v : Data) (s : State) : (setDlyi v s).acc = s.acc := rfl
@[simp] theorem setDlyi_pc (v : Data) (s : State) : (setDlyi v s).pc = s.pc := rfl
@[simp] theorem setDlyi_acpb (v : Data) (s : State) : (setDlyi v s).acpb = s.acpb := rfl
@[simp] theorem setDlyi_di (v : Data) (s : State) : (setDlyi v s).di = s.di := rfl
@[simp] theorem setDlyi_outs (v : Data) (s : State) : (setDlyi v s).outs = s.outs := rfl
@[simp] theorem setDlyi_vol (v : Data) (s : State) : (setDlyi v s).vol = s.vol := rfl
@[simp] theorem setDlyi_lfs (v : Data) (s : State) : (setDlyi v s).lfs = s.lfs := rfl
@[simp] theorem setDlyi_dlyi (v : Data) (s : State) : (setDlyi v s).dlyi = s.dlyi := rfl
@[simp] theorem setDlyi_dlyo (v : Data) (s : State) : (setDlyi v s).dlyo = s.dlyo := rfl
@[simp] theorem setDlyi_dlyPtr (v : Data) (s : State) : (setDlyi v s).dlyPtr = s.dlyPtr := rfl
@[simp] theorem setDlyi_pend (v : Data) (s : State) : (setDlyi v s).pend = s.pend := rfl
@[simp] theorem setDlyi_lastStore (v : Data) (s : State) : (setDlyi v s).lastStore = s.lastStore := rfl
@[simp] theorem setDlyi_pipe (v : Data) (s : State) : (setDlyi v s).pipe = s.pipe := rfl
@[simp] theorem setDlyi_dlyAge (v : Data) (s : State) : (setDlyi v s).dlyAge = s.dlyAge := rfl
@[simp] theorem setDlyi_run (v : Data) (s : State) : (setDlyi v s).run = s.run := rfl
@[simp] theorem setDlyi_data (v : Data) (s : State) : (setDlyi v s).data = s.data := rfl
@[simp] theorem setDlyi_coef (v : Data) (s : State) : (setDlyi v s).coef = s.coef := rfl
@[simp] theorem setDlyi_imem (v : Data) (s : State) : (setDlyi v s).imem = s.imem := rfl
@[simp] theorem setDlyi_delayLog (v : Data) (s : State) : (setDlyi v s).delayLog = s.delayLog := rfl
@[simp] theorem setDlyi_dreg0 (v : Data) (s : State) : (setDlyi v s).dreg0 = s.dreg0 := rfl
@[simp] theorem setDlyi_lfsrSeed (v : Data) (s : State) : (setDlyi v s).lfsrSeed = s.lfsrSeed := rfl
@[simp] theorem setDlyi_pcStart (v : Data) (s : State) : (setDlyi v s).pcStart = s.pcStart := rfl
@[simp] theorem setDlyi_esfr (v : Data) (s : State) : (setDlyi v s).esfr = s.esfr := rfl
@[simp] theorem setDlyi_hostQueue (v : Data) (s : State) : (setDlyi v s).hostQueue = s.hostQueue := rfl
@[simp] theorem setDlyi_frameClock (v : Data) (s : State) : (setDlyi v s).frameClock = s.frameClock := rfl
@[simp] theorem setDlyi_frame (v : Data) (s : State) : (setDlyi v s).frame = s.frame := rfl
@[simp] theorem setDlyi_now (v : Data) (s : State) : (setDlyi v s).now = s.now := rfl

/-! ### setOut -/

@[simp] theorem setOut_cfg (k : Fin 8) (v : OutWord) (s : State) : (setOut k v s).cfg = s.cfg := rfl
@[simp] theorem setOut_b (k : Fin 8) (v : OutWord) (s : State) : (setOut k v s).b = s.b := rfl
@[simp] theorem setOut_l (k : Fin 8) (v : OutWord) (s : State) : (setOut k v s).l = s.l := rfl
@[simp] theorem setOut_md (k : Fin 8) (v : OutWord) (s : State) : (setOut k v s).md = s.md := rfl
@[simp] theorem setOut_mc (k : Fin 8) (v : OutWord) (s : State) : (setOut k v s).mc = s.mc := rfl
@[simp] theorem setOut_br (k : Fin 8) (v : OutWord) (s : State) : (setOut k v s).br = s.br := rfl
@[simp] theorem setOut_lr (k : Fin 8) (v : OutWord) (s : State) : (setOut k v s).lr = s.lr := rfl
@[simp] theorem setOut_mr (k : Fin 8) (v : OutWord) (s : State) : (setOut k v s).mr = s.mr := rfl
@[simp] theorem setOut_acc (k : Fin 8) (v : OutWord) (s : State) : (setOut k v s).acc = s.acc := rfl
@[simp] theorem setOut_pc (k : Fin 8) (v : OutWord) (s : State) : (setOut k v s).pc = s.pc := rfl
@[simp] theorem setOut_acpb (k : Fin 8) (v : OutWord) (s : State) : (setOut k v s).acpb = s.acpb := rfl
@[simp] theorem setOut_di (k : Fin 8) (v : OutWord) (s : State) : (setOut k v s).di = s.di := rfl
@[simp] theorem setOut_outs (k : Fin 8) (v : OutWord) (s : State) : (setOut k v s).outs = s.outs := rfl
@[simp] theorem setOut_vol (k : Fin 8) (v : OutWord) (s : State) : (setOut k v s).vol = s.vol := rfl
@[simp] theorem setOut_lfs (k : Fin 8) (v : OutWord) (s : State) : (setOut k v s).lfs = s.lfs := rfl
@[simp] theorem setOut_dlyi (k : Fin 8) (v : OutWord) (s : State) : (setOut k v s).dlyi = s.dlyi := rfl
@[simp] theorem setOut_dlyo (k : Fin 8) (v : OutWord) (s : State) : (setOut k v s).dlyo = s.dlyo := rfl
@[simp] theorem setOut_dlyPtr (k : Fin 8) (v : OutWord) (s : State) : (setOut k v s).dlyPtr = s.dlyPtr := rfl
@[simp] theorem setOut_pend (k : Fin 8) (v : OutWord) (s : State) : (setOut k v s).pend = s.pend := rfl
@[simp] theorem setOut_lastStore (k : Fin 8) (v : OutWord) (s : State) : (setOut k v s).lastStore = s.lastStore := rfl
@[simp] theorem setOut_pipe (k : Fin 8) (v : OutWord) (s : State) : (setOut k v s).pipe = s.pipe := rfl
@[simp] theorem setOut_dlyAge (k : Fin 8) (v : OutWord) (s : State) : (setOut k v s).dlyAge = s.dlyAge := rfl
@[simp] theorem setOut_run (k : Fin 8) (v : OutWord) (s : State) : (setOut k v s).run = s.run := rfl
@[simp] theorem setOut_data (k : Fin 8) (v : OutWord) (s : State) : (setOut k v s).data = s.data := rfl
@[simp] theorem setOut_coef (k : Fin 8) (v : OutWord) (s : State) : (setOut k v s).coef = s.coef := rfl
@[simp] theorem setOut_imem (k : Fin 8) (v : OutWord) (s : State) : (setOut k v s).imem = s.imem := rfl
@[simp] theorem setOut_delayLog (k : Fin 8) (v : OutWord) (s : State) : (setOut k v s).delayLog = s.delayLog := rfl
@[simp] theorem setOut_dreg0 (k : Fin 8) (v : OutWord) (s : State) : (setOut k v s).dreg0 = s.dreg0 := rfl
@[simp] theorem setOut_lfsrSeed (k : Fin 8) (v : OutWord) (s : State) : (setOut k v s).lfsrSeed = s.lfsrSeed := rfl
@[simp] theorem setOut_pcStart (k : Fin 8) (v : OutWord) (s : State) : (setOut k v s).pcStart = s.pcStart := rfl
@[simp] theorem setOut_esfr (k : Fin 8) (v : OutWord) (s : State) : (setOut k v s).esfr = s.esfr := rfl
@[simp] theorem setOut_hostQueue (k : Fin 8) (v : OutWord) (s : State) : (setOut k v s).hostQueue = s.hostQueue := rfl
@[simp] theorem setOut_frameClock (k : Fin 8) (v : OutWord) (s : State) : (setOut k v s).frameClock = s.frameClock := rfl
@[simp] theorem setOut_frame (k : Fin 8) (v : OutWord) (s : State) : (setOut k v s).frame = s.frame := rfl
@[simp] theorem setOut_now (k : Fin 8) (v : OutWord) (s : State) : (setOut k v s).now = s.now := rfl

/-! ### schedStore -/

@[simp] theorem schedStore_cfg (q : StoreReq) (s : State) : (schedStore q s).cfg = s.cfg := rfl
@[simp] theorem schedStore_b (q : StoreReq) (s : State) : (schedStore q s).b = s.b := rfl
@[simp] theorem schedStore_l (q : StoreReq) (s : State) : (schedStore q s).l = s.l := rfl
@[simp] theorem schedStore_md (q : StoreReq) (s : State) : (schedStore q s).md = s.md := rfl
@[simp] theorem schedStore_mc (q : StoreReq) (s : State) : (schedStore q s).mc = s.mc := rfl
@[simp] theorem schedStore_br (q : StoreReq) (s : State) : (schedStore q s).br = s.br := rfl
@[simp] theorem schedStore_lr (q : StoreReq) (s : State) : (schedStore q s).lr = s.lr := rfl
@[simp] theorem schedStore_mr (q : StoreReq) (s : State) : (schedStore q s).mr = s.mr := rfl
@[simp] theorem schedStore_acc (q : StoreReq) (s : State) : (schedStore q s).acc = s.acc := rfl
@[simp] theorem schedStore_pc (q : StoreReq) (s : State) : (schedStore q s).pc = s.pc := rfl
@[simp] theorem schedStore_acpb (q : StoreReq) (s : State) : (schedStore q s).acpb = s.acpb := rfl
@[simp] theorem schedStore_di (q : StoreReq) (s : State) : (schedStore q s).di = s.di := rfl
@[simp] theorem schedStore_outs (q : StoreReq) (s : State) : (schedStore q s).outs = s.outs := rfl
@[simp] theorem schedStore_vol (q : StoreReq) (s : State) : (schedStore q s).vol = s.vol := rfl
@[simp] theorem schedStore_lfs (q : StoreReq) (s : State) : (schedStore q s).lfs = s.lfs := rfl
@[simp] theorem schedStore_dlyi (q : StoreReq) (s : State) : (schedStore q s).dlyi = s.dlyi := rfl
@[simp] theorem schedStore_dlyo (q : StoreReq) (s : State) : (schedStore q s).dlyo = s.dlyo := rfl
@[simp] theorem schedStore_dlyPtr (q : StoreReq) (s : State) : (schedStore q s).dlyPtr = s.dlyPtr := rfl
@[simp] theorem schedStore_pend (q : StoreReq) (s : State) : (schedStore q s).pend = s.pend := rfl
@[simp] theorem schedStore_lastStore (q : StoreReq) (s : State) : (schedStore q s).lastStore = s.lastStore := rfl
@[simp] theorem schedStore_pipe (q : StoreReq) (s : State) : (schedStore q s).pipe = s.pipe := rfl
@[simp] theorem schedStore_dlyAge (q : StoreReq) (s : State) : (schedStore q s).dlyAge = s.dlyAge := rfl
@[simp] theorem schedStore_run (q : StoreReq) (s : State) : (schedStore q s).run = s.run := rfl
@[simp] theorem schedStore_data (q : StoreReq) (s : State) : (schedStore q s).data = s.data := rfl
@[simp] theorem schedStore_coef (q : StoreReq) (s : State) : (schedStore q s).coef = s.coef := rfl
@[simp] theorem schedStore_imem (q : StoreReq) (s : State) : (schedStore q s).imem = s.imem := rfl
@[simp] theorem schedStore_delayLog (q : StoreReq) (s : State) : (schedStore q s).delayLog = s.delayLog := rfl
@[simp] theorem schedStore_dreg0 (q : StoreReq) (s : State) : (schedStore q s).dreg0 = s.dreg0 := rfl
@[simp] theorem schedStore_lfsrSeed (q : StoreReq) (s : State) : (schedStore q s).lfsrSeed = s.lfsrSeed := rfl
@[simp] theorem schedStore_pcStart (q : StoreReq) (s : State) : (schedStore q s).pcStart = s.pcStart := rfl
@[simp] theorem schedStore_esfr (q : StoreReq) (s : State) : (schedStore q s).esfr = s.esfr := rfl
@[simp] theorem schedStore_hostQueue (q : StoreReq) (s : State) : (schedStore q s).hostQueue = s.hostQueue := rfl
@[simp] theorem schedStore_frameClock (q : StoreReq) (s : State) : (schedStore q s).frameClock = s.frameClock := rfl
@[simp] theorem schedStore_frame (q : StoreReq) (s : State) : (schedStore q s).frame = s.frame := rfl
@[simp] theorem schedStore_now (q : StoreReq) (s : State) : (schedStore q s).now = s.now := rfl

/-! ### selectPointer -/

@[simp] theorem selectPointer_cfg (p : Addr) (s : State) : (selectPointer p s).cfg = s.cfg := rfl
@[simp] theorem selectPointer_b (p : Addr) (s : State) : (selectPointer p s).b = s.b := rfl
@[simp] theorem selectPointer_l (p : Addr) (s : State) : (selectPointer p s).l = s.l := rfl
@[simp] theorem selectPointer_md (p : Addr) (s : State) : (selectPointer p s).md = s.md := rfl
@[simp] theorem selectPointer_mc (p : Addr) (s : State) : (selectPointer p s).mc = s.mc := rfl
@[simp] theorem selectPointer_br (p : Addr) (s : State) : (selectPointer p s).br = s.br := rfl
@[simp] theorem selectPointer_lr (p : Addr) (s : State) : (selectPointer p s).lr = s.lr := rfl
@[simp] theorem selectPointer_mr (p : Addr) (s : State) : (selectPointer p s).mr = s.mr := rfl
@[simp] theorem selectPointer_acc (p : Addr) (s : State) : (selectPointer p s).acc = s.acc := rfl
@[simp] theorem selectPointer_pc (p : Addr) (s : State) : (selectPointer p s).pc = s.pc := rfl
@[simp] theorem selectPointer_acpb (p : Addr) (s : State) : (selectPointer p s).acpb = s.acpb := rfl
@[simp] theorem selectPointer_di (p : Addr) (s : State) : (selectPointer p s).di = s.di := rfl
@[simp] theorem selectPointer_outs (p : Addr) (s : State) : (selectPointer p s).outs = s.outs := rfl
@[simp] theorem selectPointer_vol (p : Addr) (s : State) : (selectPointer p s).vol = s.vol := rfl
@[simp] theorem selectPointer_lfs (p : Addr) (s : State) : (selectPointer p s).lfs = s.lfs := rfl
@[simp] theorem selectPointer_dlyi (p : Addr) (s : State) : (selectPointer p s).dlyi = s.dlyi := rfl
@[simp] theorem selectPointer_dlyo (p : Addr) (s : State) : (selectPointer p s).dlyo = s.dlyo := rfl
@[simp] theorem selectPointer_dlyPtr (p : Addr) (s : State) : (selectPointer p s).dlyPtr = s.dlyPtr := rfl
@[simp] theorem selectPointer_pend (p : Addr) (s : State) : (selectPointer p s).pend = s.pend := rfl
@[simp] theorem selectPointer_lastStore (p : Addr) (s : State) : (selectPointer p s).lastStore = s.lastStore := rfl
@[simp] theorem selectPointer_pipe (p : Addr) (s : State) : (selectPointer p s).pipe = s.pipe := rfl
@[simp] theorem selectPointer_dlyAge (p : Addr) (s : State) : (selectPointer p s).dlyAge = s.dlyAge := rfl
@[simp] theorem selectPointer_run (p : Addr) (s : State) : (selectPointer p s).run = s.run := rfl
@[simp] theorem selectPointer_data (p : Addr) (s : State) : (selectPointer p s).data = s.data := rfl
@[simp] theorem selectPointer_coef (p : Addr) (s : State) : (selectPointer p s).coef = s.coef := rfl
@[simp] theorem selectPointer_imem (p : Addr) (s : State) : (selectPointer p s).imem = s.imem := rfl
@[simp] theorem selectPointer_delayLog (p : Addr) (s : State) : (selectPointer p s).delayLog = s.delayLog := rfl
@[simp] theorem selectPointer_dreg0 (p : Addr) (s : State) : (selectPointer p s).dreg0 = s.dreg0 := rfl
@[simp] theorem selectPointer_lfsrSeed (p : Addr) (s : State) : (selectPointer p s).lfsrSeed = s.lfsrSeed := rfl
@[simp] theorem selectPointer_pcStart (p : Addr) (s : State) : (selectPointer p s).pcStart = s.pcStart := rfl
@[simp] theorem selectPointer_esfr (p : Addr) (s : State) : (selectPointer p s).esfr = s.esfr := rfl
@[simp] theorem selectPointer_hostQueue (p : Addr) (s : State) : (selectPointer p s).hostQueue = s.hostQueue := rfl
@[simp] theorem selectPointer_frameClock (p : Addr) (s : State) : (selectPointer p s).frameClock = s.frameClock := rfl
@[simp] theorem selectPointer_frame (p : Addr) (s : State) : (selectPointer p s).frame = s.frame := rfl
@[simp] theorem selectPointer_now (p : Addr) (s : State) : (selectPointer p s).now = s.now := rfl

/-! ### schedPipe -/

@[simp] theorem schedPipe_cfg (t : Option Addr) (h : Bool) (s : State) : (schedPipe t h s).cfg = s.cfg := rfl
@[simp] theorem schedPipe_b (t : Option Addr) (h : Bool) (s : State) : (schedPipe t h s).b = s.b := rfl
@[simp] theorem schedPipe_l (t : Option Addr) (h : Bool) (s : State) : (schedPipe t h s).l = s.l := rfl
@[simp] theorem schedPipe_md (t : Option Addr) (h : Bool) (s : State) : (schedPipe t h s).md = s.md := rfl
@[simp] theorem schedPipe_mc (t : Option Addr) (h : Bool) (s : State) : (schedPipe t h s).mc = s.mc := rfl
@[simp] theorem schedPipe_br (t : Option Addr) (h : Bool) (s : State) : (schedPipe t h s).br = s.br := rfl
@[simp] theorem schedPipe_lr (t : Option Addr) (h : Bool) (s : State) : (schedPipe t h s).lr = s.lr := rfl
@[simp] theorem schedPipe_mr (t : Option Addr) (h : Bool) (s : State) : (schedPipe t h s).mr = s.mr := rfl
@[simp] theorem schedPipe_acc (t : Option Addr) (h : Bool) (s : State) : (schedPipe t h s).acc = s.acc := rfl
@[simp] theorem schedPipe_pc (t : Option Addr) (h : Bool) (s : State) : (schedPipe t h s).pc = s.pc := rfl
@[simp] theorem schedPipe_acpb (t : Option Addr) (h : Bool) (s : State) : (schedPipe t h s).acpb = s.acpb := rfl
@[simp] theorem schedPipe_di (t : Option Addr) (h : Bool) (s : State) : (schedPipe t h s).di = s.di := rfl
@[simp] theorem schedPipe_outs (t : Option Addr) (h : Bool) (s : State) : (schedPipe t h s).outs = s.outs := rfl
@[simp] theorem schedPipe_vol (t : Option Addr) (h : Bool) (s : State) : (schedPipe t h s).vol = s.vol := rfl
@[simp] theorem schedPipe_lfs (t : Option Addr) (h : Bool) (s : State) : (schedPipe t h s).lfs = s.lfs := rfl
@[simp] theorem schedPipe_dlyi (t : Option Addr) (h : Bool) (s : State) : (schedPipe t h s).dlyi = s.dlyi := rfl
@[simp] theorem schedPipe_dlyo (t : Option Addr) (h : Bool) (s : State) : (schedPipe t h s).dlyo = s.dlyo := rfl
@[simp] theorem schedPipe_dlyPtr (t : Option Addr) (h : Bool) (s : State) : (schedPipe t h s).dlyPtr = s.dlyPtr := rfl
@[simp] theorem schedPipe_pend (t : Option Addr) (h : Bool) (s : State) : (schedPipe t h s).pend = s.pend := rfl
@[simp] theorem schedPipe_lastStore (t : Option Addr) (h : Bool) (s : State) : (schedPipe t h s).lastStore = s.lastStore := rfl
@[simp] theorem schedPipe_pipe (t : Option Addr) (h : Bool) (s : State) : (schedPipe t h s).pipe = s.pipe := rfl
@[simp] theorem schedPipe_dlyAge (t : Option Addr) (h : Bool) (s : State) : (schedPipe t h s).dlyAge = s.dlyAge := rfl
@[simp] theorem schedPipe_run (t : Option Addr) (h : Bool) (s : State) : (schedPipe t h s).run = s.run := rfl
@[simp] theorem schedPipe_data (t : Option Addr) (h : Bool) (s : State) : (schedPipe t h s).data = s.data := rfl
@[simp] theorem schedPipe_coef (t : Option Addr) (h : Bool) (s : State) : (schedPipe t h s).coef = s.coef := rfl
@[simp] theorem schedPipe_imem (t : Option Addr) (h : Bool) (s : State) : (schedPipe t h s).imem = s.imem := rfl
@[simp] theorem schedPipe_delayLog (t : Option Addr) (h : Bool) (s : State) : (schedPipe t h s).delayLog = s.delayLog := rfl
@[simp] theorem schedPipe_dreg0 (t : Option Addr) (h : Bool) (s : State) : (schedPipe t h s).dreg0 = s.dreg0 := rfl
@[simp] theorem schedPipe_lfsrSeed (t : Option Addr) (h : Bool) (s : State) : (schedPipe t h s).lfsrSeed = s.lfsrSeed := rfl
@[simp] theorem schedPipe_pcStart (t : Option Addr) (h : Bool) (s : State) : (schedPipe t h s).pcStart = s.pcStart := rfl
@[simp] theorem schedPipe_esfr (t : Option Addr) (h : Bool) (s : State) : (schedPipe t h s).esfr = s.esfr := rfl
@[simp] theorem schedPipe_hostQueue (t : Option Addr) (h : Bool) (s : State) : (schedPipe t h s).hostQueue = s.hostQueue := rfl
@[simp] theorem schedPipe_frameClock (t : Option Addr) (h : Bool) (s : State) : (schedPipe t h s).frameClock = s.frameClock := rfl
@[simp] theorem schedPipe_frame (t : Option Addr) (h : Bool) (s : State) : (schedPipe t h s).frame = s.frame := rfl
@[simp] theorem schedPipe_now (t : Option Addr) (h : Bool) (s : State) : (schedPipe t h s).now = s.now := rfl

/-! ### issue -/

@[simp] theorem issue_cfg (w : InsnWord) (s : State) : (issue w s).cfg = s.cfg := rfl
@[simp] theorem issue_b (w : InsnWord) (s : State) : (issue w s).b = s.b := rfl
@[simp] theorem issue_l (w : InsnWord) (s : State) : (issue w s).l = s.l := rfl
@[simp] theorem issue_md (w : InsnWord) (s : State) : (issue w s).md = s.md := rfl
@[simp] theorem issue_mc (w : InsnWord) (s : State) : (issue w s).mc = s.mc := rfl
@[simp] theorem issue_br (w : InsnWord) (s : State) : (issue w s).br = s.br := rfl
@[simp] theorem issue_lr (w : InsnWord) (s : State) : (issue w s).lr = s.lr := rfl
@[simp] theorem issue_mr (w : InsnWord) (s : State) : (issue w s).mr = s.mr := rfl
@[simp] theorem issue_acc (w : InsnWord) (s : State) : (issue w s).acc = s.acc := rfl
@[simp] theorem issue_pc (w : InsnWord) (s : State) : (issue w s).pc = s.pc := rfl
@[simp] theorem issue_acpb (w : InsnWord) (s : State) : (issue w s).acpb = s.acpb := rfl
@[simp] theorem issue_di (w : InsnWord) (s : State) : (issue w s).di = s.di := rfl
@[simp] theorem issue_outs (w : InsnWord) (s : State) : (issue w s).outs = s.outs := rfl
@[simp] theorem issue_vol (w : InsnWord) (s : State) : (issue w s).vol = s.vol := rfl
@[simp] theorem issue_lfs (w : InsnWord) (s : State) : (issue w s).lfs = s.lfs := rfl
@[simp] theorem issue_dlyi (w : InsnWord) (s : State) : (issue w s).dlyi = s.dlyi := rfl
@[simp] theorem issue_dlyo (w : InsnWord) (s : State) : (issue w s).dlyo = s.dlyo := rfl
@[simp] theorem issue_dlyPtr (w : InsnWord) (s : State) : (issue w s).dlyPtr = s.dlyPtr := rfl
@[simp] theorem issue_pend (w : InsnWord) (s : State) : (issue w s).pend = s.pend := rfl
@[simp] theorem issue_lastStore (w : InsnWord) (s : State) : (issue w s).lastStore = s.lastStore := rfl
@[simp] theorem issue_pipe (w : InsnWord) (s : State) : (issue w s).pipe = s.pipe := rfl
@[simp] theorem issue_dlyAge (w : InsnWord) (s : State) : (issue w s).dlyAge = s.dlyAge := rfl
@[simp] theorem issue_run (w : InsnWord) (s : State) : (issue w s).run = s.run := rfl
@[simp] theorem issue_data (w : InsnWord) (s : State) : (issue w s).data = s.data := rfl
@[simp] theorem issue_coef (w : InsnWord) (s : State) : (issue w s).coef = s.coef := rfl
@[simp] theorem issue_imem (w : InsnWord) (s : State) : (issue w s).imem = s.imem := rfl
@[simp] theorem issue_delayLog (w : InsnWord) (s : State) : (issue w s).delayLog = s.delayLog := rfl
@[simp] theorem issue_dreg0 (w : InsnWord) (s : State) : (issue w s).dreg0 = s.dreg0 := rfl
@[simp] theorem issue_lfsrSeed (w : InsnWord) (s : State) : (issue w s).lfsrSeed = s.lfsrSeed := rfl
@[simp] theorem issue_pcStart (w : InsnWord) (s : State) : (issue w s).pcStart = s.pcStart := rfl
@[simp] theorem issue_esfr (w : InsnWord) (s : State) : (issue w s).esfr = s.esfr := rfl
@[simp] theorem issue_hostQueue (w : InsnWord) (s : State) : (issue w s).hostQueue = s.hostQueue := rfl
@[simp] theorem issue_frameClock (w : InsnWord) (s : State) : (issue w s).frameClock = s.frameClock := rfl
@[simp] theorem issue_frame (w : InsnWord) (s : State) : (issue w s).frame = s.frame := rfl
@[simp] theorem issue_now (w : InsnWord) (s : State) : (issue w s).now = s.now := rfl

/-! ### settle -/

@[simp] theorem settle_cfg (s : State) : (settle s).cfg = s.cfg := rfl
@[simp] theorem settle_di (s : State) : (settle s).di = s.di := rfl
@[simp] theorem settle_imem (s : State) : (settle s).imem = s.imem := rfl
@[simp] theorem settle_lfsrSeed (s : State) : (settle s).lfsrSeed = s.lfsrSeed := rfl
@[simp] theorem settle_pcStart (s : State) : (settle s).pcStart = s.pcStart := rfl
@[simp] theorem settle_esfr (s : State) : (settle s).esfr = s.esfr := rfl
@[simp] theorem settle_hostQueue (s : State) : (settle s).hostQueue = s.hostQueue := rfl
@[simp] theorem settle_frame (s : State) : (settle s).frame = s.frame := rfl

/-! ### idleClock -/

@[simp] theorem idleClock_cfg (s : State) : (idleClock s).cfg = s.cfg := rfl
@[simp] theorem idleClock_b (s : State) : (idleClock s).b = s.b := rfl
@[simp] theorem idleClock_l (s : State) : (idleClock s).l = s.l := rfl
@[simp] theorem idleClock_md (s : State) : (idleClock s).md = s.md := rfl
@[simp] theorem idleClock_mc (s : State) : (idleClock s).mc = s.mc := rfl
@[simp] theorem idleClock_br (s : State) : (idleClock s).br = s.br := rfl
@[simp] theorem idleClock_lr (s : State) : (idleClock s).lr = s.lr := rfl
@[simp] theorem idleClock_mr (s : State) : (idleClock s).mr = s.mr := rfl
@[simp] theorem idleClock_acc (s : State) : (idleClock s).acc = s.acc := rfl
@[simp] theorem idleClock_pc (s : State) : (idleClock s).pc = s.pc := rfl
@[simp] theorem idleClock_acpb (s : State) : (idleClock s).acpb = s.acpb := rfl
@[simp] theorem idleClock_di (s : State) : (idleClock s).di = s.di := rfl
@[simp] theorem idleClock_outs (s : State) : (idleClock s).outs = s.outs := rfl
@[simp] theorem idleClock_dlyi (s : State) : (idleClock s).dlyi = s.dlyi := rfl
@[simp] theorem idleClock_dlyPtr (s : State) : (idleClock s).dlyPtr = s.dlyPtr := rfl
@[simp] theorem idleClock_pend (s : State) : (idleClock s).pend = s.pend := rfl
@[simp] theorem idleClock_pipe (s : State) : (idleClock s).pipe = s.pipe := rfl
@[simp] theorem idleClock_run (s : State) : (idleClock s).run = s.run := rfl
@[simp] theorem idleClock_data (s : State) : (idleClock s).data = s.data := rfl
@[simp] theorem idleClock_coef (s : State) : (idleClock s).coef = s.coef := rfl
@[simp] theorem idleClock_imem (s : State) : (idleClock s).imem = s.imem := rfl
@[simp] theorem idleClock_delayLog (s : State) : (idleClock s).delayLog = s.delayLog := rfl
@[simp] theorem idleClock_dreg0 (s : State) : (idleClock s).dreg0 = s.dreg0 := rfl
@[simp] theorem idleClock_lfsrSeed (s : State) : (idleClock s).lfsrSeed = s.lfsrSeed := rfl
@[simp] theorem idleClock_pcStart (s : State) : (idleClock s).pcStart = s.pcStart := rfl
@[simp] theorem idleClock_esfr (s : State) : (idleClock s).esfr = s.esfr := rfl
@[simp] theorem idleClock_hostQueue (s : State) : (idleClock s).hostQueue = s.hostQueue := rfl
@[simp] theorem idleClock_frame (s : State) : (idleClock s).frame = s.frame := rfl

/-! ### frameRestart -/

@[simp] theorem frameRestart_cfg (s : State) : (frameRestart s).cfg = s.cfg := rfl
@[simp] theorem frameRestart_outs (s : State) : (frameRestart s).outs = s.outs := rfl
@[simp] theorem frameRestart_vol (s : State) : (frameRestart s).vol = s.vol := rfl
@[simp] theorem frameRestart_lfs (s : State) : (frameRestart s).lfs = s.lfs := rfl
@[simp] theorem frameRestart_dlyi (s : State) : (frameRestart s).dlyi = s.dlyi := rfl
@[simp] theorem frameRestart_dlyo (s : State) : (frameRestart s).dlyo = s.dlyo := rfl
@[simp] theorem frameRestart_dlyPtr (s : State) : (frameRestart s).dlyPtr = s.dlyPtr := rfl
@[simp] theorem frameRestart_data (s : State) : (frameRestart s).data = s.data := rfl
@[simp] theorem frameRestart_coef (s : State) : (frameRestart s).coef = s.coef := rfl
@[simp] theorem frameRestart_imem (s : State) : (frameRestart s).imem = s.imem := rfl
@[simp] theorem frameRestart_delayLog (s : State) : (frameRestart s).delayLog = s.delayLog := rfl
@[simp] theorem frameRestart_dreg0 (s : State) : (frameRestart s).dreg0 = s.dreg0 := rfl
@[simp] theorem frameRestart_lfsrSeed (s : State) : (frameRestart s).lfsrSeed = s.lfsrSeed := rfl
@[simp] theorem frameRestart_pcStart (s : State) : (frameRestart s).pcStart = s.pcStart := rfl
@[simp] theorem frameRestart_esfr (s : State) : (frameRestart s).esfr = s.esfr := rfl
@[simp] theorem frameRestart_hostQueue (s : State) : (frameRestart s).hostQueue = s.hostQueue := rfl

@[simp] theorem settle_b (s : State) : (settle s).b = s.sched.b.getD s.b := rfl
@[simp] theorem settle_l (s : State) : (settle s).l = s.sched.l.getD s.l := rfl
@[simp] theorem settle_md (s : State) : (settle s).md = s.sched.md.getD s.md := rfl
@[simp] theorem settle_mc (s : State) : (settle s).mc = s.sched.mc.getD s.mc := rfl
@[simp] theorem settle_br (s : State) : (settle s).br = s.sched.br.getD s.br := rfl
@[simp] theorem settle_lr (s : State) : (settle s).lr = s.sched.lr.getD s.lr := rfl
@[simp] theorem settle_mr (s : State) : (settle s).mr = product s.md s.mc := rfl
@[simp] theorem settle_acc (s : State) : (settle s).acc = s.sched.acc.getD s.acc := rfl
@[simp] theorem settle_pc (s : State) : (settle s).pc = nextPc s := rfl
@[simp] theorem settle_acpb (s : State) : (settle s).acpb = s.pend.getD s.acpb := rfl
@[simp] theorem settle_dlyi (s : State) : (settle s).dlyi = s.sched.dlyi.getD s.dlyi := rfl
@[simp] theorem settle_outs (s : State) : (settle s).outs = match s.sched.out with
    | none => s.outs
    | some (k, v) => s.outs.set k v := rfl
@[simp] theorem settle_vol (s : State) : (settle s).vol = nextVol s := rfl
@[simp] theorem settle_lfs (s : State) :
    (settle s).lfs = Config.lfsrNext s.lfsrSeed s.lfs s.now := rfl
@[simp] theorem settle_dlyo (s : State) : (settle s).dlyo = nextDlyo s := rfl
@[simp] theorem settle_dlyPtr (s : State) : (settle s).dlyPtr =
    if s.sched.dlyi.isSome then s.sched.dlyPtr.getD s.dlyPtr else s.dlyPtr := rfl
@[simp] theorem settle_pend (s : State) : (settle s).pend = s.sched.pend := rfl
@[simp] theorem settle_lastStore (s : State) : (settle s).lastStore = s.sched.store.map storeAddress := rfl
@[simp] theorem settle_pipe (s : State) : (settle s).pipe = nextPipe s := rfl
@[simp] theorem settle_dlyAge (s : State) : (settle s).dlyAge = nextDlyAge s := rfl
@[simp] theorem settle_run (s : State) : (settle s).run = nextRun s := rfl
@[simp] theorem settle_data (s : State) : (settle s).data = nextData s := rfl
@[simp] theorem settle_coef (s : State) : (settle s).coef = nextCoef s := rfl
@[simp] theorem settle_delayLog (s : State) : (settle s).delayLog = nextDelayLog s := rfl
@[simp] theorem settle_dreg0 (s : State) : (settle s).dreg0 = nextDreg0 s := rfl
@[simp] theorem settle_frameClock (s : State) : (settle s).frameClock = s.frameClock + 1 := rfl
@[simp] theorem settle_now (s : State) : (settle s).now = s.now + 1 := rfl
@[simp] theorem settle_sched (s : State) : (settle s).sched = Sched.empty := rfl

/-- What a fault records does not depend on what is scheduled. -/
@[simp] theorem siteOf_sched (s : State) (k : Sched) : siteOf { s with sched := k } = siteOf s := rfl

end Sys2Proof.Machine
end

