-- ==== Sys2Proof/Laws/Ops.lean ====
section
/-! SUPPORT. One lemma per shared operation that says once what it can do. -/

namespace Sys2Proof.Machine

/-! ### Chaining -/

theorem andThen_next_iff {r : Result} {g : State → Result} {t : State} :
    andThen r g = .next t ↔ ∃ s, r = .next s ∧ g s = .next t := by
  cases r <;> simp [andThen]

@[simp] theorem andThen_next (s : State) (g : State → Result) : andThen (.next s) g = g s := rfl

@[simp] theorem andThen_fault (f : Fault) (g : State → Result) :
    andThen (.fault f) g = .fault f := rfl

/-! ### Memory reads -/

theorem plainAddr_iff {a : Addr} :
    plainAddr a ↔ a ≠ lfsrAddr ∧ a ≠ seedAddr ∧ a ≠ pcStartAddr ∧ a ≠ dreg0Addr := Iff.rfl

theorem memReadData_lfsr (s : State) : memReadData 0x301 s = .ok s.lfs := rfl

/-- A load of a word that may be loaded gives the word. -/
theorem memReadData_loadable {a : Addr} {v : Data} {s : State} (h : DataLoadable a v s) :
    memReadData a s = .ok v := by
  obtain ⟨hp, h5, h6, h7, h8⟩ := h
  obtain ⟨h1, h2, h3, h4⟩ := plainAddr_iff.mp hp
  simp only [memReadData, h1, h2, h3, h4, h6, h7, h8, Nat.not_le.mpr h5, if_false, or_self]

/-- What a DATA read that succeeds has read. -/
theorem memReadData_ok_iff {a : Addr} {v : Data} {s : State} :
    memReadData a s = .ok v ↔ (a = 0x301 ∧ v = s.lfs) ∨ DataLoadable a v s := by
  constructor
  · intro h
    unfold memReadData at h
    split at h
    · rename_i ha; left; simp [lfsrAddr] at ha; simp_all
    · rename_i ha
      right
      split at h
      · simp at h
      · rename_i hb
        split at h
        · simp at h
        · split at h
          · simp at h
          · split at h
            · simp at h
            · split at h
              · simp at h
              · rename_i hr
                simp only [lfsrAddr, seedAddr, pcStartAddr, dreg0Addr, not_or] at ha hb
                injection h with h
                refine ⟨⟨ha, hb.1, hb.2.1, hb.2.2⟩, by omega, by assumption, by assumption, ?_⟩
                rw [hr, h]
  · rintro (⟨rfl, rfl⟩ | h)
    · rfl
    · exact memReadData_loadable h

theorem memReadCoef_ok_iff {a : Addr} {v : Coef} {s : State} :
    memReadCoef a s = .ok v ↔ CoefLoadable a v s := by
  unfold memReadCoef CoefLoadable
  constructor
  · intro h
    split at h
    · simp at h
    · split at h
      · simp at h
      · split at h
        · simp at h
        · split at h
          · simp at h
          · rename_i hr
            injection h with h
            exact ⟨by omega, by assumption, by assumption, by rw [hr, h]⟩
  · rintro ⟨h1, h2, h3, h4⟩
    simp [Nat.not_le.mpr h1, h2, h3, h4]

/-! ### Loads, stores, branches -/

theorem loadData_next {a : Addr} {dest : Data → State → State} {s t : State}
    (h : loadData a dest s = .next t) : ∃ v, memReadData a s = .ok v ∧ t = dest v s := by
  unfold loadData at h
  split at h
  · simp at h
  · rename_i v hv; exact ⟨v, hv, by simpa using h.symm⟩

theorem loadData_of_ok {a : Addr} {dest : Data → State → State} {s : State} {v : Data}
    (h : memReadData a s = .ok v) : loadData a dest s = .next (dest v s) := by
  simp [loadData, h]

theorem loadCoef_next {a : Addr} {dest : Coef → State → State} {s t : State}
    (h : loadCoef a dest s = .next t) : ∃ v, memReadCoef a s = .ok v ∧ t = dest v s := by
  unfold loadCoef at h
  split at h
  · simp at h
  · rename_i v hv; exact ⟨v, hv, by simpa using h.symm⟩

theorem loadCoef_of_ok {a : Addr} {dest : Coef → State → State} {s : State} {v : Coef}
    (h : memReadCoef a s = .ok v) : loadCoef a dest s = .next (dest v s) := by
  simp [loadCoef, h]

theorem loadIf_next {cond : Bool} {load : State → Result} {s t : State}
    (h : loadIf cond load s = .next t) :
    (cond = true ∧ load s = .next t) ∨ (cond = false ∧ t = s) := by
  cases cond
  · right; simpa [loadIf, eq_comm] using h
  · left; simpa [loadIf] using h

/-- A DATA store that goes through goes to DREG0 or to a plain implemented word. -/
theorem storeData_next {a : Addr} {v : Data} {s t : State} (h : storeData a v s = .next t) :
    (a = 0x2BE ∧ t = schedStore (.dreg0 v) s) ∨
    (DataStorable a s ∧ t = schedStore (.data a v) s) := by
  unfold storeData at h
  split at h
  · rename_i ha; left; exact ⟨by simpa [dreg0Addr] using ha, by simpa using h.symm⟩
  · split at h
    · simp at h
    · split at h
      · simp at h
      · rename_i h1 h2 h3
        simp only [lfsrAddr, seedAddr, pcStartAddr, dreg0Addr, not_or] at h1 h2
        right
        exact ⟨⟨⟨h2.2.2, h2.1, h2.2.1, h1⟩, by omega⟩, by simpa using h.symm⟩

theorem storeData_of_storable {a : Addr} {v : Data} {s : State} (h : DataStorable a s) :
    storeData a v s = .next (schedStore (.data a v) s) := by
  obtain ⟨hp, h5⟩ := h
  obtain ⟨h1, h2, h3, h4⟩ := plainAddr_iff.mp hp
  simp only [storeData, h1, h2, h3, h4, Nat.not_le.mpr h5, if_false, or_self]

theorem storeCoef_next {a : Addr} {v : Data} {s t : State} (h : storeCoef a v s = .next t) :
    a.toNat < s.cfg.coefWords ∧ t = schedStore (.coef a (v.setWidth 28)) s := by
  unfold storeCoef at h
  split at h
  · simp at h
  · exact ⟨by omega, by simpa using h.symm⟩

theorem branchIf_next {taken : Bool} {target : Addr} {s t : State}
    (h : branchIf taken target s = .next t) :
    inOwnWords target s = false ∧ target.toNat < s.cfg.imemWords ∧
    t = schedPipe (if taken then some target else none) false s := by
  unfold branchIf at h
  split at h
  · simp at h
  · rename_i h1
    split at h
    · simp at h
    · exact ⟨by simpa using h1, by omega, by simpa using h.symm⟩

/-! ### A meaning only schedules -/

/-- A state that differs from `s` in nothing but what is scheduled. -/
def SchedOnly (s t : State) : Prop := ∃ k, t = { s with sched := k }

theorem SchedOnly.refl (s : State) : SchedOnly s s := ⟨s.sched, rfl⟩

theorem SchedOnly.trans {s t u : State} (h : SchedOnly s t) (g : SchedOnly t u) :
    SchedOnly s u := by
  obtain ⟨k, rfl⟩ := h
  obtain ⟨k', rfl⟩ := g
  exact ⟨k', rfl⟩

theorem setB_schedOnly (v : Data) (s : State) : SchedOnly s (setB v s) := ⟨_, rfl⟩
theorem setL_schedOnly (v : Data) (s : State) : SchedOnly s (setL v s) := ⟨_, rfl⟩
theorem setMd_schedOnly (v : Data) (s : State) : SchedOnly s (setMd v s) := ⟨_, rfl⟩
theorem setMc_schedOnly (v : Coef) (s : State) : SchedOnly s (setMc v s) := ⟨_, rfl⟩
theorem setBr_schedOnly (v : Data) (s : State) : SchedOnly s (setBr v s) := ⟨_, rfl⟩
theorem setLr_schedOnly (v : Data) (s : State) : SchedOnly s (setLr v s) := ⟨_, rfl⟩
theorem setBl_schedOnly (v : Data) (s : State) : SchedOnly s (setBl v s) := ⟨_, rfl⟩
theorem clearAcc_schedOnly (s : State) : SchedOnly s (clearAcc s) := ⟨_, rfl⟩

theorem clearAccAgain_schedOnly (s : State) : SchedOnly s (clearAccAgain s) := by
  unfold clearAccAgain
  split
  · exact .refl s
  · exact clearAcc_schedOnly s

theorem writeSum_schedOnly (c : Clip) (d : Dest) (x : Acc) (s : State) :
    SchedOnly s (writeSum c d x s) := by
  cases d <;> exact ⟨_, rfl⟩

theorem addTo_next {a : OperandA} {b : OperandB} {c : Clip} {d : Dest} {s t : State}
    (h : addTo a b c d s = .next t) : t = writeSum c d (sumOf a b s) s := by
  simpa [addTo] using h.symm

theorem addTo_schedOnly {a : OperandA} {b : OperandB} {c : Clip} {d : Dest} {s t : State}
    (h : addTo a b c d s = .next t) : SchedOnly s t := by
  rw [addTo_next h]; exact writeSum_schedOnly c d _ s

theorem compare_schedOnly {a : OperandA} {b : OperandB} {s t : State}
    (h : compare a b s = .next t) : SchedOnly s t := by
  simp only [compare, Host.Outcome.next.injEq] at h; exact ⟨_, h.symm⟩

theorem loadData_schedOnly {a : Addr} {dest : Data → State → State} {s t : State}
    (hd : ∀ v u, SchedOnly u (dest v u)) (h : loadData a dest s = .next t) : SchedOnly s t := by
  obtain ⟨v, -, rfl⟩ := loadData_next h; exact hd v s

theorem loadCoef_schedOnly {a : Addr} {dest : Coef → State → State} {s t : State}
    (hd : ∀ v u, SchedOnly u (dest v u)) (h : loadCoef a dest s = .next t) : SchedOnly s t := by
  obtain ⟨v, -, rfl⟩ := loadCoef_next h; exact hd v s

theorem loadIf_schedOnly {cond : Bool} {load : State → Result} {s t : State}
    (hl : load s = .next t → SchedOnly s t) (h : loadIf cond load s = .next t) :
    SchedOnly s t := by
  obtain ⟨-, h⟩ | ⟨-, rfl⟩ := loadIf_next h
  · exact hl h
  · exact .refl _

theorem storeData_schedOnly {a : Addr} {v : Data} {s t : State}
    (h : storeData a v s = .next t) : SchedOnly s t := by
  obtain ⟨-, rfl⟩ | ⟨-, rfl⟩ := storeData_next h <;> exact ⟨_, rfl⟩

theorem storeCoef_schedOnly {a : Addr} {v : Data} {s t : State}
    (h : storeCoef a v s = .next t) : SchedOnly s t := by
  obtain ⟨-, rfl⟩ := storeCoef_next h; exact ⟨_, rfl⟩

theorem branchIf_schedOnly {taken : Bool} {target : Addr} {s t : State}
    (h : branchIf taken target s = .next t) : SchedOnly s t := by
  obtain ⟨-, -, rfl⟩ := branchIf_next h; exact ⟨_, rfl⟩

/-! ### The end of a clock and the host's turn -/

theorem endOfClock_next {s t : State} (h : endOfClock s = .next t) :
    s.sched.conflict = none ∧ t = settle s := by
  unfold endOfClock at h
  split at h
  · simp at h
  · rename_i hc; exact ⟨hc, by simpa using h.symm⟩

theorem endOfClock_of_clean {s : State} (h : s.sched.conflict = none) :
    endOfClock s = .next (settle s) := by simp [endOfClock, h]

theorem frameBoundary_next {s t : State} (h : frameBoundary s = .next t) :
    s.run = .stopped ∧ s.pipe = none ∧ t = frameRestart s := by
  unfold frameBoundary at h
  split at h
  · rename_i hc; exact ⟨hc.1, hc.2, by simpa using h.symm⟩
  · simp at h

/-- What the host's turn can change: an ESFR; or the seed, PC START or one memory word, by the word
on `Data_to_DSP_o`. -/
theorem hostTurn_next {free : Bool} {s t : State} (h : hostTurn free s = .next t) :
    t = s ∨ ∃ rest,
      (∃ e, t = { s with esfr := e, hostQueue := rest }) ∨
      t = { s with lfsrSeed := busData s.esfr, hostQueue := rest } ∨
      t = { s with pcStart := busData s.esfr, hostQueue := rest } ∨
      (∃ a, DataStorable a s ∧ t = { s with
        data := Memory.write s.data a.toNat (busData s.esfr), lastStore := some (.data, a),
        hostQueue := rest }) ∨
      (∃ a, a.toNat < s.cfg.coefWords ∧ t = { s with
        coef := Memory.write s.coef a.toNat (busCoef s.esfr), lastStore := some (.coef, a),
        hostQueue := rest }) := by
  unfold hostTurn at h
  split at h
  · left; simpa using h.symm
  · rename_i r v rest _
    right
    exact ⟨rest, .inl ⟨esfrWrite r v s.esfr, by simpa using h.symm⟩⟩
  · rename_i a rest _
    split at h
    · right
      refine ⟨rest, ?_⟩
      unfold hostWriteData at h
      split at h
      · right; left; simpa using h.symm
      · split at h
        · right; right; left; simpa using h.symm
        · split at h
          · simp at h
          · rename_i h1 h2 h3
            simp only [lfsrAddr, seedAddr, pcStartAddr, dreg0Addr, not_or] at h1 h2 h3
            right; right; right; left
            refine ⟨a, ⟨⟨h3.2.1, h1, h2, h3.1⟩, ?_⟩, by simpa using h.symm⟩
            have := h3.2.2
            omega
    · left; simpa using h.symm
  · rename_i a rest _
    split at h
    · right
      refine ⟨rest, ?_⟩
      unfold hostWriteCoef at h
      split at h
      · simp at h
      · rename_i h1
        right; right; right; right
        exact ⟨a, Nat.lt_of_not_le h1, by simpa using h.symm⟩
    · left; simpa using h.symm

/-- The host's turn raises no fault. -/
theorem hostTurn_ne_fault (free : Bool) (s : State) (f : Fault) : hostTurn free s ≠ .fault f := by
  unfold hostTurn hostWriteData hostWriteCoef
  repeat' split
  all_goals simp

/-! ### What a fault records -/

theorem memReadData_error {a : Addr} {s : State} {f : Fault} (h : memReadData a s = .error f) :
    f.site = siteOf s := by
  unfold memReadData at h
  repeat' split at h
  all_goals cases h
  all_goals rfl

theorem memReadCoef_error {a : Addr} {s : State} {f : Fault} (h : memReadCoef a s = .error f) :
    f.site = siteOf s := by
  unfold memReadCoef at h
  repeat' split at h
  all_goals cases h
  all_goals rfl

theorem loadData_fault {a : Addr} {dest : Data → State → State} {s : State} {f : Fault}
    (h : loadData a dest s = .fault f) : f.site = siteOf s := by
  unfold loadData at h
  split at h
  · rename_i e; cases h; exact memReadData_error e
  · cases h

theorem loadCoef_fault {a : Addr} {dest : Coef → State → State} {s : State} {f : Fault}
    (h : loadCoef a dest s = .fault f) : f.site = siteOf s := by
  unfold loadCoef at h
  split at h
  · rename_i e; cases h; exact memReadCoef_error e
  · cases h

theorem loadIf_fault {cond : Bool} {load : State → Result} {s : State} {f : Fault}
    (hl : load s = .fault f → f.site = siteOf s) (h : loadIf cond load s = .fault f) :
    f.site = siteOf s := by
  cases cond
  · cases h
  · exact hl h

theorem storeData_fault {a : Addr} {v : Data} {s : State} {f : Fault}
    (h : storeData a v s = .fault f) : f.site = siteOf s := by
  unfold storeData at h
  repeat' split at h
  all_goals cases h
  all_goals rfl

theorem storeCoef_fault {a : Addr} {v : Data} {s : State} {f : Fault}
    (h : storeCoef a v s = .fault f) : f.site = siteOf s := by
  unfold storeCoef at h
  split at h <;> cases h
  rfl

theorem branchIf_fault {taken : Bool} {a : Addr} {s : State} {f : Fault}
    (h : branchIf taken a s = .fault f) : f.site = siteOf s := by
  unfold branchIf at h
  repeat' split at h
  all_goals cases h
  all_goals rfl

end Sys2Proof.Machine
end

