-- ==== Sys2Proof/Laws/Exec.lean ====
section
/-! SUPPORT. What every meaning has in common: it changes nothing but what is scheduled
(00_scope.md R12(b)); and what a word and a step can answer. -/

namespace Sys2Proof.Machine

/-- A meaning that answers a next state changes only what is scheduled. -/
theorem exec_schedOnly {i : Instr} {s t : State} (h : exec i s = .next t) : SchedOnly s t := by
  have toNext : ∀ {u : State}, SchedOnly s u → Host.Outcome.next (φ := Fault) (ρ := Refusal) u =
      .next t → SchedOnly s t := fun hu e => by injection e with e; exact e ▸ hu
  cases i <;> first
    | exact addTo_schedOnly h
    | exact compare_schedOnly h
    | exact toNext (.refl s) h
    | exact toNext (setBr_schedOnly _ s) h
    | exact toNext (setLr_schedOnly _ s) h
    | exact toNext (clearAcc_schedOnly s) h
    | exact toNext (clearAccAgain_schedOnly s) h
    | exact toNext ⟨_, rfl⟩ h
    | exact branchIf_schedOnly h
    | exact loadData_schedOnly setB_schedOnly h
    | exact loadData_schedOnly setL_schedOnly h
    | exact loadData_schedOnly setMd_schedOnly h
    | exact loadData_schedOnly setBl_schedOnly h
    | exact loadData_schedOnly (fun _ _ => setMc_schedOnly _ _) h
    | exact loadIf_schedOnly (loadData_schedOnly setB_schedOnly) h
    | exact loadIf_schedOnly (loadData_schedOnly setL_schedOnly) h
    | exact loadIf_schedOnly (loadData_schedOnly setMd_schedOnly) h
    | exact loadCoef_schedOnly setMc_schedOnly h
    | exact loadCoef_schedOnly (fun _ _ => setL_schedOnly _ _) h
    | exact loadIf_schedOnly (loadCoef_schedOnly setMc_schedOnly) h
    | exact storeData_schedOnly h
    | exact storeCoef_schedOnly h
    | (simp only [exec, execStDlyoData] at h
       split at h
       · exact storeData_schedOnly h
       · cases h)

/-- A meaning that faults records the PC and the clock of its word. -/
theorem exec_fault {i : Instr} {s : State} {f : Fault} (h : exec i s = .fault f) :
    f.site = siteOf s := by
  have no : ∀ {u : State}, Host.Outcome.next (φ := Fault) (ρ := Refusal) u = .fault f →
      f.site = siteOf s := fun e => nomatch e
  cases i <;> first
    | exact no h
    | exact branchIf_fault h
    | exact loadData_fault h
    | exact loadIf_fault loadData_fault h
    | exact loadCoef_fault h
    | exact loadIf_fault loadCoef_fault h
    | exact storeData_fault h
    | exact storeCoef_fault h
    | (simp only [exec, execStDlyoData] at h
       split at h
       · exact storeData_fault h
       · cases h; rfl)

theorem execFields_schedOnly {w : InsnWord} {s t : State} (h : execFields w s = .next t) :
    SchedOnly s t := by
  simp only [execFields, andThen_next_iff] at h
  obtain ⟨s1, h1, s2, h2, s3, h3, s4, h4, h5⟩ := h
  exact (exec_schedOnly h1).trans <| (exec_schedOnly h2).trans <| (exec_schedOnly h3).trans <|
    (exec_schedOnly h4).trans (exec_schedOnly h5)

/-- What a word that answers a next state has done: it passed the checks, its operations scheduled
`k` with no register written twice, and the writes of `k` landed. -/
theorem execWord_next {w : InsnWord} {s t : State} (h : execWord w s = .next t) :
    wordFault w s = none ∧ unwrittenFault w s = none ∧ ∃ k,
      execFields w (issue w s) = .next { s with sched := k } ∧ k.conflict = none ∧
      t = settle { s with sched := k } := by
  unfold execWord at h
  split at h
  · cases h
  · rename_i hf
    split at h
    · cases h
    · rename_i hu
      obtain ⟨u, hu1, hu2⟩ := andThen_next_iff.mp h
      obtain ⟨k, hk⟩ := execFields_schedOnly hu1
      obtain ⟨hc, rfl⟩ := endOfClock_next hu2
      subst hk
      exact ⟨hf, hu, k, hu1, hc, rfl⟩

theorem fetchDecode_ok {s : State} {w : InsnWord} (h : fetchDecode s = .ok w) :
    s.pc < s.cfg.imemWords ∧ ∃ bits, Memory.read s.imem s.pc = some bits ∧
      decode s.cfg bits = .ok w := by
  unfold fetchDecode fetch at h
  split at h
  · cases h
  · rename_i bits hb
    split at hb
    · cases hb
    · rename_i hp
      split at hb
      · cases hb
      · rename_i bits' hr
        injection hb with hb
        subst hb
        split at h
        · cases h
        · rename_i w' hd
          injection h with h
          subst h
          exact ⟨by omega, bits', hr, hd⟩

theorem fetchDecode_of {s : State} {bits : InsnBits} {w : InsnWord} (hp : s.pc < s.cfg.imemWords)
    (hr : Memory.read s.imem s.pc = some bits) (hd : decode s.cfg bits = .ok w) :
    fetchDecode s = .ok w := by
  simp [fetchDecode, fetch, Nat.not_le.mpr hp, hr, hd]

/-- What a step that answers a next state can be: the frame restart, an idle clock with the host's
turn, or a word with the host's turn. -/
theorem step_next {s t : State} (h : step s = .next t) :
    (s.cfg.cyclesPerFrame ≤ s.frameClock ∧ s.run = .stopped ∧ s.pipe = none ∧
      t = frameRestart s) ∨
    (s.frameClock < s.cfg.cyclesPerFrame ∧ s.run = .stopped ∧
      hostTurn true (idleClock s) = .next t) ∨
    (s.frameClock < s.cfg.cyclesPerFrame ∧ s.run = .running ∧ ∃ w u,
      fetchDecode s = .ok w ∧ execWord w s = .next u ∧
      hostTurn (portFree s.cfg w.mop3) u = .next t) := by
  unfold step advance at h
  split at h
  · rename_i hb
    obtain ⟨h1, h2, h3⟩ := frameBoundary_next h
    exact .inl ⟨hb, h1, h2, h3⟩
  · rename_i hb
    split at h
    · rename_i hr; exact .inr (.inl ⟨by omega, hr, h⟩)
    · rename_i hr
      unfold runClock at h
      split at h
      · cases h
      · rename_i w hw
        obtain ⟨u, hu, ht⟩ := andThen_next_iff.mp h
        exact .inr (.inr ⟨by omega, hr, w, u, hw, hu, ht⟩)

/-- A step of the running machine inside a frame is the fetched word, then the host's turn. -/
theorem step_running {s : State} {w : InsnWord} (hb : s.frameClock < s.cfg.cyclesPerFrame)
    (hr : s.run = .running) (hw : fetchDecode s = .ok w) :
    step s = andThen (execWord w s) (hostTurn (portFree s.cfg w.mop3)) := by
  simp [step, advance, runClock, Nat.not_le.mpr hb, hr, hw]

end Sys2Proof.Machine
end

