-- ==== Sys2Proof/Laws/Memory.lean ====
section
/-! SUPPORT. The laws of the word memories: a read after a write, and the canonical form, which
every memory operation keeps (20_memory.md R70 to R73). -/

namespace Sys2Proof.Machine

theorem Memory.read_write_same {w : Nat} (m : List (Nat × BitVec w)) (x : Nat) (v : BitVec w) :
    Memory.read (Memory.write m x v) x = some v := by
  induction m with
  | nil => simp [Memory.write, Memory.read]
  | cons p m ih =>
    obtain ⟨a, u⟩ := p
    unfold Memory.write
    split
    · simp [Memory.read]
    · split
      · rename_i h; simp [Memory.read, h]
      · rename_i h; simpa [Memory.read, h] using ih

theorem Memory.read_write_other {w : Nat} (m : List (Nat × BitVec w)) (x y : Nat) (v : BitVec w)
    (h : y ≠ x) : Memory.read (Memory.write m x v) y = Memory.read m y := by
  induction m with
  | nil => simp [Memory.write, Memory.read, h]
  | cons p m ih =>
    obtain ⟨a, u⟩ := p
    unfold Memory.write
    split
    · simp [Memory.read, h]
    · split
      · rename_i hx; subst hx; simp [Memory.read, h]
      · simp only [Memory.read, ih]

/-- A read after a write, in one line. -/
theorem Memory.read_write {w : Nat} (m : List (Nat × BitVec w)) (x y : Nat) (v : BitVec w) :
    Memory.read (Memory.write m x v) y = if y = x then some v else Memory.read m y := by
  by_cases h : y = x
  · subst h; simp [Memory.read_write_same]
  · simp [h, Memory.read_write_other]

theorem Memory.wf_tail {w : Nat} {p : Nat × BitVec w} {m : List (Nat × BitVec w)}
    (h : Memory.wf (p :: m) = true) : Memory.wf m = true := by
  cases m with
  | nil => rfl
  | cons q m => simp only [Memory.wf, Bool.and_eq_true] at h; exact h.2

theorem Memory.wf_cons {w : Nat} {a : Nat} {u : BitVec w} {m : List (Nat × BitVec w)}
    (hm : Memory.wf m = true) (h : ∀ q, m.head? = some q → a < q.1) :
    Memory.wf ((a, u) :: m) = true := by
  cases m with
  | nil => rfl
  | cons q m => simp [Memory.wf, hm, h q rfl]

theorem Memory.head_lt {w : Nat} {a : Nat} {u : BitVec w} {m : List (Nat × BitVec w)}
    (h : Memory.wf ((a, u) :: m) = true) : ∀ q, m.head? = some q → a < q.1 := by
  cases m with
  | nil => simp
  | cons q m =>
    simp only [Memory.wf, Bool.and_eq_true, decide_eq_true_eq] at h
    simpa using h.1

/-- Where a write's first entry lies. -/
theorem Memory.head_write {w : Nat} (m : List (Nat × BitVec w)) (x : Nat) (v : BitVec w) (n : Nat)
    (hx : n < x) (hm : ∀ q, m.head? = some q → n < q.1) :
    ∀ q, (Memory.write m x v).head? = some q → n < q.1 := by
  cases m with
  | nil => simp [Memory.write, hx]
  | cons p m =>
    obtain ⟨a, u⟩ := p
    have ha : n < a := hm (a, u) rfl
    unfold Memory.write
    split
    · simp [hx]
    · split <;> simp [ha]

/-- A write keeps the canonical form. -/
theorem Memory.wf_write {w : Nat} (m : List (Nat × BitVec w)) (x : Nat) (v : BitVec w)
    (h : Memory.wf m = true) : Memory.wf (Memory.write m x v) = true := by
  induction m with
  | nil => rfl
  | cons p m ih =>
    obtain ⟨a, u⟩ := p
    have ht := Memory.wf_tail h
    have hh := Memory.head_lt h
    unfold Memory.write
    split
    · rename_i hx; exact Memory.wf_cons h (by simpa using hx)
    · rename_i hx
      split
      · exact Memory.wf_cons ht hh
      · rename_i hne
        exact Memory.wf_cons (ih ht) (Memory.head_write m x v a (by omega) hh)

theorem Memory.below_write {w n : Nat} (m : List (Nat × BitVec w)) (x : Nat) (v : BitVec w)
    (hx : x < n) (h : Memory.below n m = true) : Memory.below n (Memory.write m x v) = true := by
  induction m with
  | nil => simp [Memory.write, Memory.below, hx]
  | cons p m ih =>
    obtain ⟨a, u⟩ := p
    simp only [Memory.below, List.all_cons, Bool.and_eq_true, decide_eq_true_eq] at h ih
    unfold Memory.write
    split
    · simp only [Memory.below, List.all_cons, Bool.and_eq_true, decide_eq_true_eq]
      exact ⟨hx, h⟩
    · split
      · simpa [Memory.below] using h
      · simp only [Memory.below, List.all_cons, Bool.and_eq_true, decide_eq_true_eq]
        exact ⟨h.1, ih h.2⟩

/-- A write below the size keeps a memory in order. -/
theorem memoryOk_write {w n : Nat} {m : List (Nat × BitVec w)} {x : Nat} {v : BitVec w}
    (hx : x < n) (h : memoryOk n m) : memoryOk n (Memory.write m x v) :=
  ⟨Memory.wf_write m x v h.1, Memory.below_write m x v hx h.2⟩

theorem Memory.wf_reset : Memory.wf State.reset.data = true ∧ Memory.wf State.reset.coef = true ∧
    Memory.wf State.reset.imem = true := ⟨rfl, rfl, rfl⟩

end Sys2Proof.Machine
end

