-- ==== Sys2Proof/Laws/PerInstr.lean ====
section
/-! SUPPORT. Statements about each operation as syntax: decoding the code of its field, with its
address, gives the operation back (30_encoding.md R101 to R105, R111 to R114, R118). -/

namespace Sys2Proof.Laws

open Sys2Proof

namespace FieldRoundTrip

/-- The label a PC operation carries; 0 for the others. -/
def label : Instr → Addr
  | .jmp a | .boc a | .bnc a => a
  | _ => 0

/-- Whatever code the encoder gives the operation in a field, the decoder of that field reads the
operation from it; for the MOP3 field, of every code but the shared 0000 (R113). -/
def Statement (i : Instr) : Prop :=
  ∀ cfg : Config, cfg.wf = true →
    (∀ c, alu1Code cfg i = some c → decodeAlu1 cfg c (label i) = some i) ∧
    (∀ c, alu2Code cfg i = some c → decodeAlu2 cfg c = some i) ∧
    (∀ c a, mop1Code i = some (c, a) → decodeMop1 c a = some i) ∧
    (∀ c a, mop2Code i = some (c, a) → decodeMop2 c a = some i) ∧
    (∀ c a, mop3Code cfg i = some (c, a) → c ≠ 0#4 →
      ∀ x y, decodeMop3 cfg x y c a = some i)

/-! ### The open codes -/

theorem decodeAlu1_open (cfg : Config) (c : BitVec 5) (a : Addr) (h : alu1Unassigned c = true) :
    decodeAlu1 cfg c a = if c = cfg.shl2Code then some .shl2 else none := by
  have key : ∀ c : BitVec 5, alu1Unassigned c = true → ∀ cfg a,
      decodeAlu1 cfg c a = if c = cfg.shl2Code then some .shl2 else none := by
    intro c h cfg a
    have : c.toNat < 32 := c.isLt
    obtain ⟨n, hn, rfl⟩ : ∃ n, n < 32 ∧ c = BitVec.ofNat 5 n :=
      ⟨c.toNat, this, by simp⟩
    interval_cases n <;> first
      | rfl
      | exact absurd h (by decide)
  exact key c h cfg a

theorem decodeAlu2_open (cfg : Config) (c : BitVec 7) (h : alu2Unassigned c = true) :
    decodeAlu2 cfg c =
      if some c = cfg.alu2ClraccCode then some .clraccAlu2
      else if some c = cfg.addAccZeroNoneLCode then some .addAccZeroNoneL
      else if some c = cfg.addAccZeroNoneMdCode then some .addAccZeroNoneMd
      else none := by
  obtain ⟨n, hn, rfl⟩ : ∃ n, n < 128 ∧ c = BitVec.ofNat 7 n := ⟨c.toNat, c.isLt, by simp⟩
  interval_cases n <;> first
    | rfl
    | exact absurd h (by decide)

theorem decodeMop3_open (cfg : Config) (x y : Instr) (c : BitVec 4) (a : Addr)
    (h : mop3Unassigned c = true) :
    decodeMop3 cfg x y c a =
      if c = cfg.pcaddrCode then some (.pcaddr a)
      else if some c = cfg.stVolCode then some (.stVolData a)
      else none := by
  obtain ⟨n, hn, rfl⟩ : ∃ n, n < 16 ∧ c = BitVec.ofNat 4 n := ⟨c.toNat, c.isLt, by simp⟩
  interval_cases n <;> first
    | rfl
    | exact absurd h (by decide)

/-- What well-formed parameters say of the open codes. -/
theorem wf_codes {cfg : Config} (h : cfg.wf = true) :
    alu1Unassigned cfg.shl2Code = true ∧
    codeFree alu2Unassigned cfg.alu2ClraccCode = true ∧
    codeFree alu2Unassigned cfg.addAccZeroNoneLCode = true ∧
    codeFree alu2Unassigned cfg.addAccZeroNoneMdCode = true ∧
    codesDiffer cfg.alu2ClraccCode cfg.addAccZeroNoneLCode = true ∧
    codesDiffer cfg.alu2ClraccCode cfg.addAccZeroNoneMdCode = true ∧
    codesDiffer cfg.addAccZeroNoneLCode cfg.addAccZeroNoneMdCode = true ∧
    (cfg.pcaddrCode == 0#4 || mop3Unassigned cfg.pcaddrCode) = true ∧
    codeFree mop3Unassigned cfg.stVolCode = true ∧
    codesDiffer (some cfg.pcaddrCode) cfg.stVolCode = true := by
  simp only [Config.wf, Bool.and_eq_true] at h
  obtain ⟨⟨⟨⟨⟨⟨⟨⟨⟨⟨⟨⟨⟨-, -⟩, -⟩, -⟩, h1⟩, h2⟩, h3⟩, h4⟩, h5⟩, h6⟩, h7⟩, h8⟩, h9⟩, h10⟩ := h
  exact ⟨h1, h2, h3, h4, h5, h6, h7, h8, h9, h10⟩

/-! ### One lemma per operation -/

theorem nopAlu1 : Statement .nopAlu1 := fun _ _ =>
  ⟨fun _ e => by cases e; rfl, nofun, nofun, nofun, nofun⟩

theorem absB : Statement .absB := fun _ _ =>
  ⟨fun _ e => by cases e; rfl, nofun, nofun, nofun, nofun⟩

theorem negB : Statement .negB := fun _ _ =>
  ⟨fun _ e => by cases e; rfl, nofun, nofun, nofun, nofun⟩

theorem negL : Statement .negL := fun _ _ =>
  ⟨fun _ e => by cases e; rfl, nofun, nofun, nofun, nofun⟩

theorem log2 : Statement .log2 := fun _ _ =>
  ⟨fun _ e => by cases e; rfl, nofun, nofun, nofun, nofun⟩

theorem alog2 : Statement .alog2 := fun _ _ =>
  ⟨fun _ e => by cases e; rfl, nofun, nofun, nofun, nofun⟩

theorem shr1 : Statement .shr1 := fun _ _ =>
  ⟨fun _ e => by cases e; rfl, nofun, nofun, nofun, nofun⟩

theorem shr2 : Statement .shr2 := fun _ _ =>
  ⟨fun _ e => by cases e; rfl, nofun, nofun, nofun, nofun⟩

theorem shr3 : Statement .shr3 := fun _ _ =>
  ⟨fun _ e => by cases e; rfl, nofun, nofun, nofun, nofun⟩

theorem shr4 : Statement .shr4 := fun _ _ =>
  ⟨fun _ e => by cases e; rfl, nofun, nofun, nofun, nofun⟩

theorem shl1 : Statement .shl1 := fun _ _ =>
  ⟨fun _ e => by cases e; rfl, nofun, nofun, nofun, nofun⟩

theorem shl2 : Statement .shl2 := fun cfg h =>
  ⟨fun c e => by
    cases e
    rw [decodeAlu1_open _ _ _ (wf_codes h).1, if_pos rfl], nofun, nofun, nofun, nofun⟩

theorem shl3 : Statement .shl3 := fun _ _ =>
  ⟨fun _ e => by cases e; rfl, nofun, nofun, nofun, nofun⟩

theorem shl4 : Statement .shl4 := fun _ _ =>
  ⟨fun _ e => by cases e; rfl, nofun, nofun, nofun, nofun⟩

theorem absL : Statement .absL := fun _ _ =>
  ⟨fun _ e => by cases e; rfl, nofun, nofun, nofun, nofun⟩

theorem clraccAlu1 : Statement .clraccAlu1 := fun _ _ =>
  ⟨fun _ e => by cases e; rfl, nofun, nofun, nofun, nofun⟩

theorem thruB : Statement .thruB := fun _ _ =>
  ⟨fun _ e => by cases e; rfl, nofun, nofun, nofun, nofun⟩

theorem thruL : Statement .thruL := fun _ _ =>
  ⟨fun _ e => by cases e; rfl, nofun, nofun, nofun, nofun⟩

theorem shl20 : Statement .shl20 := fun _ _ =>
  ⟨fun _ e => by cases e; rfl, nofun, nofun, nofun, nofun⟩

theorem jmp (a : Addr) : Statement (.jmp a) := fun _ _ =>
  ⟨fun _ e => by cases e; rfl, nofun, nofun, nofun, nofun⟩

theorem boc (a : Addr) : Statement (.boc a) := fun _ _ =>
  ⟨fun _ e => by cases e; rfl, nofun, nofun, nofun, nofun⟩

theorem bnc (a : Addr) : Statement (.bnc a) := fun _ _ =>
  ⟨fun _ e => by cases e; rfl, nofun, nofun, nofun, nofun⟩

theorem stop : Statement .stop := fun _ _ =>
  ⟨fun _ e => by cases e; rfl, nofun, nofun, nofun, nofun⟩

theorem nopAlu2 : Statement .nopAlu2 := fun _ _ =>
  ⟨nofun, fun _ e => by cases e; rfl, nofun, nofun, nofun⟩

theorem addBrMrNoneMd : Statement .addBrMrNoneMd := fun _ _ =>
  ⟨nofun, fun _ e => by cases e; rfl, nofun, nofun, nofun⟩

theorem addBrMrNoneB : Statement .addBrMrNoneB := fun _ _ =>
  ⟨nofun, fun _ e => by cases e; rfl, nofun, nofun, nofun⟩

theorem addBrMrNoneL : Statement .addBrMrNoneL := fun _ _ =>
  ⟨nofun, fun _ e => by cases e; rfl, nofun, nofun, nofun⟩

theorem addBrMrNoneMc : Statement .addBrMrNoneMc := fun _ _ =>
  ⟨nofun, fun _ e => by cases e; rfl, nofun, nofun, nofun⟩

theorem addBrMrNoneAcc : Statement .addBrMrNoneAcc := fun _ _ =>
  ⟨nofun, fun _ e => by cases e; rfl, nofun, nofun, nofun⟩

theorem addBrMrNoneDlyi : Statement .addBrMrNoneDlyi := fun _ _ =>
  ⟨nofun, fun _ e => by cases e; rfl, nofun, nofun, nofun⟩

theorem compBrMr : Statement .compBrMr := fun _ _ =>
  ⟨nofun, fun _ e => by cases e; rfl, nofun, nofun, nofun⟩

theorem addBrLrNoneMd : Statement .addBrLrNoneMd := fun _ _ =>
  ⟨nofun, fun _ e => by cases e; rfl, nofun, nofun, nofun⟩

theorem addBrLrNoneB : Statement .addBrLrNoneB := fun _ _ =>
  ⟨nofun, fun _ e => by cases e; rfl, nofun, nofun, nofun⟩

theorem addBrLrNoneL : Statement .addBrLrNoneL := fun _ _ =>
  ⟨nofun, fun _ e => by cases e; rfl, nofun, nofun, nofun⟩

theorem addBrLrNoneMc : Statement .addBrLrNoneMc := fun _ _ =>
  ⟨nofun, fun _ e => by cases e; rfl, nofun, nofun, nofun⟩

theorem addBrLrNoneDlyi : Statement .addBrLrNoneDlyi := fun _ _ =>
  ⟨nofun, fun _ e => by cases e; rfl, nofun, nofun, nofun⟩

theorem compBrLr : Statement .compBrLr := fun _ _ =>
  ⟨nofun, fun _ e => by cases e; rfl, nofun, nofun, nofun⟩

theorem addAccMrNoneMd : Statement .addAccMrNoneMd := fun _ _ =>
  ⟨nofun, fun _ e => by cases e; rfl, nofun, nofun, nofun⟩

theorem addAccMrNoneB : Statement .addAccMrNoneB := fun _ _ =>
  ⟨nofun, fun _ e => by cases e; rfl, nofun, nofun, nofun⟩

theorem addAccMrNoneL : Statement .addAccMrNoneL := fun _ _ =>
  ⟨nofun, fun _ e => by cases e; rfl, nofun, nofun, nofun⟩

theorem addAccMrNoneMc : Statement .addAccMrNoneMc := fun _ _ =>
  ⟨nofun, fun _ e => by cases e; rfl, nofun, nofun, nofun⟩

theorem addAccMrNoneAcc : Statement .addAccMrNoneAcc := fun _ _ =>
  ⟨nofun, fun _ e => by cases e; rfl, nofun, nofun, nofun⟩

theorem addAccMrNoneDlyi : Statement .addAccMrNoneDlyi := fun _ _ =>
  ⟨nofun, fun _ e => by cases e; rfl, nofun, nofun, nofun⟩

theorem compAccMr : Statement .compAccMr := fun _ _ =>
  ⟨nofun, fun _ e => by cases e; rfl, nofun, nofun, nofun⟩

theorem addAccLrNoneMd : Statement .addAccLrNoneMd := fun _ _ =>
  ⟨nofun, fun _ e => by cases e; rfl, nofun, nofun, nofun⟩

theorem addAccLrNoneB : Statement .addAccLrNoneB := fun _ _ =>
  ⟨nofun, fun _ e => by cases e; rfl, nofun, nofun, nofun⟩

theorem addAccLrNoneL : Statement .addAccLrNoneL := fun _ _ =>
  ⟨nofun, fun _ e => by cases e; rfl, nofun, nofun, nofun⟩

theorem addAccLrNoneMc : Statement .addAccLrNoneMc := fun _ _ =>
  ⟨nofun, fun _ e => by cases e; rfl, nofun, nofun, nofun⟩

theorem addAccLrNoneAcc : Statement .addAccLrNoneAcc := fun _ _ =>
  ⟨nofun, fun _ e => by cases e; rfl, nofun, nofun, nofun⟩

theorem addAccLrNoneDlyi : Statement .addAccLrNoneDlyi := fun _ _ =>
  ⟨nofun, fun _ e => by cases e; rfl, nofun, nofun, nofun⟩

theorem compAccLr : Statement .compAccLr := fun _ _ =>
  ⟨nofun, fun _ e => by cases e; rfl, nofun, nofun, nofun⟩

theorem addBrMrClp32Do4 : Statement .addBrMrClp32Do4 := fun _ _ =>
  ⟨nofun, fun _ e => by cases e; rfl, nofun, nofun, nofun⟩

theorem addBrMrClp32Do1 : Statement .addBrMrClp32Do1 := fun _ _ =>
  ⟨nofun, fun _ e => by cases e; rfl, nofun, nofun, nofun⟩

theorem addBrMrClp32Do2 : Statement .addBrMrClp32Do2 := fun _ _ =>
  ⟨nofun, fun _ e => by cases e; rfl, nofun, nofun, nofun⟩

theorem addBrMrClp32Do3 : Statement .addBrMrClp32Do3 := fun _ _ =>
  ⟨nofun, fun _ e => by cases e; rfl, nofun, nofun, nofun⟩

theorem addBrLrClp32Do1 : Statement .addBrLrClp32Do1 := fun _ _ =>
  ⟨nofun, fun _ e => by cases e; rfl, nofun, nofun, nofun⟩

theorem addBrLrClp32Do2 : Statement .addBrLrClp32Do2 := fun _ _ =>
  ⟨nofun, fun _ e => by cases e; rfl, nofun, nofun, nofun⟩

theorem addBrLrClp32Do3 : Statement .addBrLrClp32Do3 := fun _ _ =>
  ⟨nofun, fun _ e => by cases e; rfl, nofun, nofun, nofun⟩

theorem addBrLrClp32Do4 : Statement .addBrLrClp32Do4 := fun _ _ =>
  ⟨nofun, fun _ e => by cases e; rfl, nofun, nofun, nofun⟩

theorem addAccMrClp32Do1 : Statement .addAccMrClp32Do1 := fun _ _ =>
  ⟨nofun, fun _ e => by cases e; rfl, nofun, nofun, nofun⟩

theorem addAccMrClp32Do2 : Statement .addAccMrClp32Do2 := fun _ _ =>
  ⟨nofun, fun _ e => by cases e; rfl, nofun, nofun, nofun⟩

theorem addAccMrClp32Do3 : Statement .addAccMrClp32Do3 := fun _ _ =>
  ⟨nofun, fun _ e => by cases e; rfl, nofun, nofun, nofun⟩

theorem addAccMrClp32Do4 : Statement .addAccMrClp32Do4 := fun _ _ =>
  ⟨nofun, fun _ e => by cases e; rfl, nofun, nofun, nofun⟩

theorem addAccLrClp32Do1 : Statement .addAccLrClp32Do1 := fun _ _ =>
  ⟨nofun, fun _ e => by cases e; rfl, nofun, nofun, nofun⟩

theorem addAccLrClp32Do2 : Statement .addAccLrClp32Do2 := fun _ _ =>
  ⟨nofun, fun _ e => by cases e; rfl, nofun, nofun, nofun⟩

theorem addAccLrClp32Do3 : Statement .addAccLrClp32Do3 := fun _ _ =>
  ⟨nofun, fun _ e => by cases e; rfl, nofun, nofun, nofun⟩

theorem addAccLrClp32Do4 : Statement .addAccLrClp32Do4 := fun _ _ =>
  ⟨nofun, fun _ e => by cases e; rfl, nofun, nofun, nofun⟩

theorem addAccZeroNoneB : Statement .addAccZeroNoneB := fun _ _ =>
  ⟨nofun, fun _ e => by cases e; rfl, nofun, nofun, nofun⟩

theorem addBrZeroNoneMd : Statement .addBrZeroNoneMd := fun _ _ =>
  ⟨nofun, fun _ e => by cases e; rfl, nofun, nofun, nofun⟩

theorem addBrZeroNoneB : Statement .addBrZeroNoneB := fun _ _ =>
  ⟨nofun, fun _ e => by cases e; rfl, nofun, nofun, nofun⟩

theorem addBrZeroNoneL : Statement .addBrZeroNoneL := fun _ _ =>
  ⟨nofun, fun _ e => by cases e; rfl, nofun, nofun, nofun⟩

theorem addBrZeroNoneMc : Statement .addBrZeroNoneMc := fun _ _ =>
  ⟨nofun, fun _ e => by cases e; rfl, nofun, nofun, nofun⟩

theorem addBrZeroClp32B : Statement .addBrZeroClp32B := fun _ _ =>
  ⟨nofun, fun _ e => by cases e; rfl, nofun, nofun, nofun⟩

theorem addBrMrClp32Do6 : Statement .addBrMrClp32Do6 := fun _ _ =>
  ⟨nofun, fun _ e => by cases e; rfl, nofun, nofun, nofun⟩

theorem addBrMrClp32Do7 : Statement .addBrMrClp32Do7 := fun _ _ =>
  ⟨nofun, fun _ e => by cases e; rfl, nofun, nofun, nofun⟩

theorem addBrLrClp32Do6 : Statement .addBrLrClp32Do6 := fun _ _ =>
  ⟨nofun, fun _ e => by cases e; rfl, nofun, nofun, nofun⟩

theorem addBrLrClp32Do7 : Statement .addBrLrClp32Do7 := fun _ _ =>
  ⟨nofun, fun _ e => by cases e; rfl, nofun, nofun, nofun⟩

theorem addAccMrClp32Do6 : Statement .addAccMrClp32Do6 := fun _ _ =>
  ⟨nofun, fun _ e => by cases e; rfl, nofun, nofun, nofun⟩

theorem addAccMrClp32Do7 : Statement .addAccMrClp32Do7 := fun _ _ =>
  ⟨nofun, fun _ e => by cases e; rfl, nofun, nofun, nofun⟩

theorem addAccLrClp32Do6 : Statement .addAccLrClp32Do6 := fun _ _ =>
  ⟨nofun, fun _ e => by cases e; rfl, nofun, nofun, nofun⟩

theorem addAccLrClp32Do7 : Statement .addAccLrClp32Do7 := fun _ _ =>
  ⟨nofun, fun _ e => by cases e; rfl, nofun, nofun, nofun⟩

theorem addAccZeroClp28Mc : Statement .addAccZeroClp28Mc := fun _ _ =>
  ⟨nofun, fun _ e => by cases e; rfl, nofun, nofun, nofun⟩

theorem addAccZeroClp28B : Statement .addAccZeroClp28B := fun _ _ =>
  ⟨nofun, fun _ e => by cases e; rfl, nofun, nofun, nofun⟩

theorem addAccZeroClp28L : Statement .addAccZeroClp28L := fun _ _ =>
  ⟨nofun, fun _ e => by cases e; rfl, nofun, nofun, nofun⟩

theorem addBrMrClp32Do5 : Statement .addBrMrClp32Do5 := fun _ _ =>
  ⟨nofun, fun _ e => by cases e; rfl, nofun, nofun, nofun⟩

theorem addBrLrClp32Do5 : Statement .addBrLrClp32Do5 := fun _ _ =>
  ⟨nofun, fun _ e => by cases e; rfl, nofun, nofun, nofun⟩

theorem addAccMrClp32Do5 : Statement .addAccMrClp32Do5 := fun _ _ =>
  ⟨nofun, fun _ e => by cases e; rfl, nofun, nofun, nofun⟩

theorem addAccLrClp32Do5 : Statement .addAccLrClp32Do5 := fun _ _ =>
  ⟨nofun, fun _ e => by cases e; rfl, nofun, nofun, nofun⟩

theorem addBrMrClp32Do8 : Statement .addBrMrClp32Do8 := fun _ _ =>
  ⟨nofun, fun _ e => by cases e; rfl, nofun, nofun, nofun⟩

theorem addBrLrClp32Do8 : Statement .addBrLrClp32Do8 := fun _ _ =>
  ⟨nofun, fun _ e => by cases e; rfl, nofun, nofun, nofun⟩

theorem addAccMrClp32Do8 : Statement .addAccMrClp32Do8 := fun _ _ =>
  ⟨nofun, fun _ e => by cases e; rfl, nofun, nofun, nofun⟩

theorem addAccLrClp32Do8 : Statement .addAccLrClp32Do8 := fun _ _ =>
  ⟨nofun, fun _ e => by cases e; rfl, nofun, nofun, nofun⟩

theorem addAccMrNoneMdb : Statement .addAccMrNoneMdb := fun _ _ =>
  ⟨nofun, fun _ e => by cases e; rfl, nofun, nofun, nofun⟩

theorem clraccAlu2 : Statement .clraccAlu2 := fun cfg h =>
  ⟨nofun, fun c e => by
    have e : cfg.alu2ClraccCode = some c := e
    have hw := wf_codes h
    simp only [e, codeFree] at hw
    rw [decodeAlu2_open _ _ hw.2.1, if_pos e.symm], nofun, nofun, nofun⟩

theorem addAccZeroNoneL : Statement .addAccZeroNoneL := fun cfg h =>
  ⟨nofun, fun c e => by
    have e : cfg.addAccZeroNoneLCode = some c := e
    have hw := wf_codes h
    simp only [e, codeFree] at hw
    obtain ⟨-, -, h1, -, h2, -⟩ := hw
    rw [decodeAlu2_open _ _ h1, if_neg, if_pos e.symm]
    intro h3
    rw [← h3] at h2
    simp [codesDiffer] at h2, nofun, nofun, nofun⟩

theorem addAccZeroNoneMd : Statement .addAccZeroNoneMd := fun cfg h =>
  ⟨nofun, fun c e => by
    have e : cfg.addAccZeroNoneMdCode = some c := e
    have hw := wf_codes h
    simp only [e, codeFree] at hw
    obtain ⟨-, -, -, h1, -, h2, h3, -⟩ := hw
    rw [decodeAlu2_open _ _ h1, if_neg, if_neg, if_pos e.symm]
    · intro h4
      rw [← h4] at h3
      simp [codesDiffer] at h3
    · intro h4
      rw [← h4] at h2
      simp [codesDiffer] at h2, nofun, nofun, nofun⟩

theorem nopMop1 : Statement .nopMop1 := fun _ _ =>
  ⟨nofun, nofun, fun _ _ e => by cases e; rfl, nofun, nofun⟩

theorem ldDataMd (a : Addr) : Statement (.ldDataMd a) := fun _ _ =>
  ⟨nofun, nofun, fun _ _ e => by cases e; rfl, nofun, nofun⟩

theorem ldDataB (a : Addr) : Statement (.ldDataB a) := fun _ _ =>
  ⟨nofun, nofun, fun _ _ e => by cases e; rfl, nofun, nofun⟩

theorem ldDataL (a : Addr) : Statement (.ldDataL a) := fun _ _ =>
  ⟨nofun, nofun, fun _ _ e => by cases e; rfl, nofun, nofun⟩

theorem ldcDataB (a : Addr) : Statement (.ldcDataB a) := fun _ _ =>
  ⟨nofun, nofun, fun _ _ e => by cases e; rfl, nofun, nofun⟩

theorem ldcDataL (a : Addr) : Statement (.ldcDataL a) := fun _ _ =>
  ⟨nofun, nofun, fun _ _ e => by cases e; rfl, nofun, nofun⟩

theorem lncDataMd (a : Addr) : Statement (.lncDataMd a) := fun _ _ =>
  ⟨nofun, nofun, fun _ _ e => by cases e; rfl, nofun, nofun⟩

theorem lncDataB (a : Addr) : Statement (.lncDataB a) := fun _ _ =>
  ⟨nofun, nofun, fun _ _ e => by cases e; rfl, nofun, nofun⟩

theorem lncDataL (a : Addr) : Statement (.lncDataL a) := fun _ _ =>
  ⟨nofun, nofun, fun _ _ e => by cases e; rfl, nofun, nofun⟩

theorem ldcDataMd (a : Addr) : Statement (.ldcDataMd a) := fun _ _ =>
  ⟨nofun, nofun, fun _ _ e => by cases e; rfl, nofun, nofun⟩

theorem ldDataBl (a : Addr) : Statement (.ldDataBl a) := fun _ _ =>
  ⟨nofun, nofun, fun _ _ e => by cases e; rfl, nofun, nofun⟩

theorem ldDataMc (a : Addr) : Statement (.ldDataMc a) := fun _ _ =>
  ⟨nofun, nofun, fun _ _ e => by cases e; rfl, nofun, nofun⟩

theorem nopMop2 : Statement .nopMop2 := fun _ _ =>
  ⟨nofun, nofun, nofun, fun _ _ e => by cases e; rfl, nofun⟩

theorem ldCoefMc (a : Addr) : Statement (.ldCoefMc a) := fun _ _ =>
  ⟨nofun, nofun, nofun, fun _ _ e => by cases e; rfl, nofun⟩

theorem ldcCoefMc (a : Addr) : Statement (.ldcCoefMc a) := fun _ _ =>
  ⟨nofun, nofun, nofun, fun _ _ e => by cases e; rfl, nofun⟩

theorem ldCoefL (a : Addr) : Statement (.ldCoefL a) := fun _ _ =>
  ⟨nofun, nofun, nofun, fun _ _ e => by cases e; rfl, nofun⟩

theorem lncCoefMc (a : Addr) : Statement (.lncCoefMc a) := fun _ _ =>
  ⟨nofun, nofun, nofun, fun _ _ e => by cases e; rfl, nofun⟩

theorem nopMop3 : Statement .nopMop3 := fun _ _ =>
  ⟨nofun, nofun, nofun, nofun, fun _ _ e h0 => by cases e; exact absurd rfl h0⟩

theorem dlyptr (a : Addr) : Statement (.dlyptr a) := fun _ _ =>
  ⟨nofun, nofun, nofun, nofun, fun _ _ e h0 => by cases e; exact absurd rfl h0⟩

theorem pcaddr (a : Addr) : Statement (.pcaddr a) := fun cfg h =>
  ⟨nofun, nofun, nofun, nofun, fun _ _ e h0 x y => by
    cases e
    have hw := (wf_codes h).2.2.2.2.2.2.2.1
    have h1 : mop3Unassigned cfg.pcaddrCode = true := by simpa [h0] using hw
    rw [decodeMop3_open _ _ _ _ _ h1, if_pos rfl]⟩

theorem stMdData (a : Addr) : Statement (.stMdData a) := fun _ _ =>
  ⟨nofun, nofun, nofun, nofun, fun _ _ e _ _ _ => by cases e; rfl⟩

theorem stBData (a : Addr) : Statement (.stBData a) := fun _ _ =>
  ⟨nofun, nofun, nofun, nofun, fun _ _ e _ _ _ => by cases e; rfl⟩

theorem stLData (a : Addr) : Statement (.stLData a) := fun _ _ =>
  ⟨nofun, nofun, nofun, nofun, fun _ _ e _ _ _ => by cases e; rfl⟩

theorem stDlyoData (a : Addr) : Statement (.stDlyoData a) := fun _ _ =>
  ⟨nofun, nofun, nofun, nofun, fun _ _ e _ _ _ => by cases e; rfl⟩

theorem stDiData (a : Addr) : Statement (.stDiData a) := fun _ _ =>
  ⟨nofun, nofun, nofun, nofun, fun _ _ e _ _ _ => by cases e; rfl⟩

theorem stMdCoef (a : Addr) : Statement (.stMdCoef a) := fun _ _ =>
  ⟨nofun, nofun, nofun, nofun, fun _ _ e _ _ _ => by cases e; rfl⟩

theorem stBCoef (a : Addr) : Statement (.stBCoef a) := fun _ _ =>
  ⟨nofun, nofun, nofun, nofun, fun _ _ e _ _ _ => by cases e; rfl⟩

theorem stLCoef (a : Addr) : Statement (.stLCoef a) := fun _ _ =>
  ⟨nofun, nofun, nofun, nofun, fun _ _ e _ _ _ => by cases e; rfl⟩

theorem stVolData (a : Addr) : Statement (.stVolData a) := fun cfg h =>
  ⟨nofun, nofun, nofun, nofun, fun c b e _ x y => by
    obtain ⟨c', hc, hp⟩ := Option.map_eq_some_iff.mp e
    cases hp
    have hw := wf_codes h
    simp only [hc, codeFree] at hw
    obtain ⟨-, -, -, -, -, -, -, -, h1, h2⟩ := hw
    rw [decodeMop3_open _ _ _ _ _ h1, if_neg, if_pos hc.symm]
    intro h3
    simp [codesDiffer, h3] at h2⟩

end FieldRoundTrip

end Sys2Proof.Laws
end

