-- ==== Sys2Proof/Laws/Slots.lean ====
section
/-! SUPPORT. What each field of a word can schedule (10_state.md R46): one lemma per field, which
says that everything else that is scheduled stays. -/

namespace Sys2Proof.Machine

/-- ALU1 schedules BR, LR, ACC or PIPE. -/
theorem alu1_sched {i : Instr} {s t : State} (hi : i.slot = .alu1) (h : exec i s = .next t) :
    t.sched = { s.sched with
      br := t.sched.br, lr := t.sched.lr, acc := t.sched.acc, pipe := t.sched.pipe,
      conflict := t.sched.conflict } := by
  have done : ∀ {u : State}, Host.Outcome.next (φ := Fault) (ρ := Refusal) u = .next t →
      (u.sched = { s.sched with
        br := u.sched.br, lr := u.sched.lr, acc := u.sched.acc, pipe := u.sched.pipe,
        conflict := u.sched.conflict }) →
      t.sched = { s.sched with
        br := t.sched.br, lr := t.sched.lr, acc := t.sched.acc, pipe := t.sched.pipe,
        conflict := t.sched.conflict } := fun e hu => by injection e with e; exact e ▸ hu
  cases i <;> first
    | (cases hi; done)
    | exact done h rfl
    | (obtain ⟨-, -, rfl⟩ := branchIf_next h; rfl)

/-- What a sum's write can schedule. -/
theorem writeSum_sched (c : Clip) (d : Dest) (x : Acc) (s : State) :
    (writeSum c d x s).sched = { s.sched with
      b := (writeSum c d x s).sched.b, l := (writeSum c d x s).sched.l,
      md := (writeSum c d x s).sched.md, mc := (writeSum c d x s).sched.mc,
      acc := (writeSum c d x s).sched.acc, dlyi := (writeSum c d x s).sched.dlyi,
      out := (writeSum c d x s).sched.out, conflict := (writeSum c d x s).sched.conflict } := by
  cases d <;> rfl

/-- ALU2 schedules B, L, MD, MC, ACC, DLYI, a DO register or ACPB_PEND. -/
theorem alu2_sched {i : Instr} {s t : State} (hi : i.slot = .alu2) (h : exec i s = .next t) :
    t.sched = { s.sched with
      b := t.sched.b, l := t.sched.l, md := t.sched.md, mc := t.sched.mc, acc := t.sched.acc,
      dlyi := t.sched.dlyi, out := t.sched.out, pend := t.sched.pend,
      conflict := t.sched.conflict } := by
  have add : ∀ {a b c d}, addTo a b c d s = .next t → t.sched = { s.sched with
      b := t.sched.b, l := t.sched.l, md := t.sched.md, mc := t.sched.mc, acc := t.sched.acc,
      dlyi := t.sched.dlyi, out := t.sched.out, pend := t.sched.pend,
      conflict := t.sched.conflict } := by
    intro a b c d e
    rw [addTo_next e]
    cases d <;> rfl
  have comp : ∀ {a b}, compare a b s = .next t → t.sched = { s.sched with
      b := t.sched.b, l := t.sched.l, md := t.sched.md, mc := t.sched.mc, acc := t.sched.acc,
      dlyi := t.sched.dlyi, out := t.sched.out, pend := t.sched.pend,
      conflict := t.sched.conflict } := by
    intro a b e
    simp only [compare, Host.Outcome.next.injEq] at e
    subst e; rfl
  cases i <;> first
    | (cases hi; done)
    | exact add h
    | exact comp h
    | (injection h with h; subst h; rfl)
    | (simp only [exec, execClraccAlu2, clearAccAgain, Host.Outcome.next.injEq] at h
       split at h <;> subst h <;> rfl)

/-- MOP1 schedules B, L, MD or MC. -/
theorem mop1_sched {i : Instr} {s t : State} (hi : i.slot = .mop1) (h : exec i s = .next t) :
    t.sched = { s.sched with
      b := t.sched.b, l := t.sched.l, md := t.sched.md, mc := t.sched.mc,
      conflict := t.sched.conflict } := by
  cases i <;> first
    | (cases hi; done)
    | (injection h with h; subst h; rfl)
    | (obtain ⟨v, -, rfl⟩ := loadData_next h; rfl)
    | (obtain ⟨-, h⟩ | ⟨-, rfl⟩ := loadIf_next h
       · obtain ⟨v, -, rfl⟩ := loadData_next h; rfl
       · rfl)

/-- MOP2 schedules MC or L. -/
theorem mop2_sched {i : Instr} {s t : State} (hi : i.slot = .mop2) (h : exec i s = .next t) :
    t.sched = { s.sched with
      l := t.sched.l, mc := t.sched.mc, conflict := t.sched.conflict } := by
  cases i <;> first
    | (cases hi; done)
    | (injection h with h; subst h; rfl)
    | (obtain ⟨v, -, rfl⟩ := loadCoef_next h; rfl)
    | (obtain ⟨-, h⟩ | ⟨-, rfl⟩ := loadIf_next h
       · obtain ⟨v, -, rfl⟩ := loadCoef_next h; rfl
       · rfl)

/-- A store that a word may make: a plain implemented DATA word, an implemented COEF word, DREG0. -/
def StoreOk (s : State) : Option StoreReq → Prop
  | some (.data a _) => DataStorable a s
  | some (.coef a _) => a.toNat < s.cfg.coefWords
  | _ => True

/-- MOP3 schedules a store or a delay pointer; the store is one the machine may make, at the address
the word announced. -/
theorem mop3_sched {i : Instr} {s t : State} (hi : i.slot = .mop3) (h : exec i s = .next t) :
    t.sched = { s.sched with store := t.sched.store, dlyPtr := t.sched.dlyPtr } ∧
    (t.sched.store = s.sched.store ∨ StoreOk s t.sched.store) ∧
    (s.sched.store = none → t.sched.store.map storeAddress = storeTarget i) := by
  have sd : ∀ {a v}, storeData a v s = .next t →
      t.sched = { s.sched with store := t.sched.store, dlyPtr := t.sched.dlyPtr } ∧
      (t.sched.store = s.sched.store ∨ StoreOk s t.sched.store) ∧
      t.sched.store.map storeAddress = some (.data, a) := by
    intro a v e
    obtain ⟨rfl, rfl⟩ | ⟨ha, rfl⟩ := storeData_next e
    · exact ⟨rfl, .inr trivial, rfl⟩
    · exact ⟨rfl, .inr ha, rfl⟩
  have sc : ∀ {a v}, storeCoef a v s = .next t →
      t.sched = { s.sched with store := t.sched.store, dlyPtr := t.sched.dlyPtr } ∧
      (t.sched.store = s.sched.store ∨ StoreOk s t.sched.store) ∧
      t.sched.store.map storeAddress = some (.coef, a) := by
    intro a v e
    obtain ⟨ha, rfl⟩ := storeCoef_next e
    exact ⟨rfl, .inr ha, rfl⟩
  cases i <;> first
    | (cases hi; done)
    | (injection h with h; subst h; exact ⟨rfl, .inl rfl, fun e => congrArg _ e⟩)
    | exact ⟨(sd h).1, (sd h).2.1, fun _ => (sd h).2.2⟩
    | exact ⟨(sc h).1, (sc h).2.1, fun _ => (sc h).2.2⟩
    | (simp only [exec, execStDlyoData] at h
       split at h
       · exact ⟨(sd h).1, (sd h).2.1, fun _ => (sd h).2.2⟩
       · cases h)

/-- The chain of a word's five operations. -/
theorem execFields_next {w : InsnWord} {s t : State} (h : execFields w s = .next t) :
    ∃ s1 s2 s3 s4, exec w.alu1 s = .next s1 ∧ exec w.alu2 s1 = .next s2 ∧
      exec w.mop1 s2 = .next s3 ∧ exec w.mop2 s3 = .next s4 ∧ exec w.mop3 s4 = .next t := by
  simp only [execFields, andThen_next_iff] at h
  obtain ⟨s1, h1, s2, h2, s3, h3, s4, h4, h5⟩ := h
  exact ⟨s1, s2, s3, s4, h1, h2, h3, h4, h5⟩

theorem slotsOk_iff {w : InsnWord} : w.slotsOk = true ↔ w.alu1.slot = .alu1 ∧ w.alu2.slot = .alu2 ∧
    w.mop1.slot = .mop1 ∧ w.mop2.slot = .mop2 ∧ w.mop3.slot = .mop3 := by
  simp [InsnWord.slotsOk, and_assoc]

/-- What a completed word has scheduled, field by field: ALU1 decides BR, LR and PIPE, ALU1 and ALU2
ACC, ALU2 DLYI, the DO registers and ACPB_PEND, MOP3 the store; and the writes have landed. -/
theorem execWord_sched {w : InsnWord} {s t : State} (hw : w.slotsOk = true)
    (h : execWord w s = .next t) :
    ∃ s1 s2 k, exec w.alu1 (issue w s) = .next s1 ∧ exec w.alu2 s1 = .next s2 ∧
      SchedOnly s s1 ∧ SchedOnly s s2 ∧ t = settle { s with sched := k } ∧
      k.br = s1.sched.br ∧ k.lr = s1.sched.lr ∧ k.acc = s2.sched.acc ∧ k.pipe = s1.sched.pipe ∧
      k.pend = s2.sched.pend ∧ k.dlyi = s2.sched.dlyi ∧ k.out = s2.sched.out ∧
      StoreOk s k.store ∧ k.store.map storeAddress = storeTarget w.mop3 := by
  obtain ⟨h1, h2, h3, h4, h5⟩ := slotsOk_iff.mp hw
  obtain ⟨_, _, k, hk, hc, ht⟩ := execWord_next h
  obtain ⟨s1, s2, s3, s4, e1, e2, e3, e4, e5⟩ := execFields_next hk
  have q1 := alu1_sched h1 e1
  have q2 := alu2_sched h2 e2
  have q3 := mop1_sched h3 e3
  have q4 := mop2_sched h4 e4
  obtain ⟨q5, q6, q7⟩ := mop3_sched h5 e5
  have o0 : SchedOnly s (issue w s) := ⟨_, rfl⟩
  have o1 := o0.trans (exec_schedOnly e1)
  have o2 := o1.trans (exec_schedOnly e2)
  have o3 := o2.trans (exec_schedOnly e3)
  have o4 := o3.trans (exec_schedOnly e4)
  simp only at q5 q6
  have hs4 : s4.sched.store = none := by rw [q4, q3, q2, q1]; rfl
  refine ⟨s1, s2, k, e1, e2, o1, o2, ht, ?_, ?_, ?_, ?_, ?_, ?_, ?_, ?_, q7 hs4⟩
  · rw [q5, q4, q3, q2]
  · rw [q5, q4, q3, q2]
  · rw [q5, q4, q3]
  · rw [q5, q4, q3, q2]
  · rw [q5, q4, q3]
  · rw [q5, q4, q3]
  · rw [q5, q4, q3]
  · obtain q6 | q6 := q6
    · rw [q6, hs4]; trivial
    · obtain ⟨k4, rfl⟩ := o4; exact q6

/-- A word that the checks let pass runs its five operations. -/
theorem execWord_of_checks {w : InsnWord} {s : State} (h1 : wordFault w s = none)
    (h2 : unwrittenFault w s = none) :
    execWord w s = andThen (execFields w (issue w s)) endOfClock := by
  simp [execWord, h1, h2]

/-- With no PC operation in the pipe the checks of the word alone decide. -/
theorem wordFault_of_form {w : InsnWord} {s : State} (hp : s.pipe = none)
    (h1 : pcFormBad w = false) (h2 : busConflict w = false)
    (h3 : delayPointerMissing w = false) : wordFault w s = none := by
  simp [wordFault, hp, h1, h2, h3]

/-- A clock in which no PC operation is in the pipe and nothing writes DLYI, as changes of the
clock that does nothing. -/
theorem settle_eq_ticked {s : State} {k : Sched} (hp : s.pipe = none) (hd : k.dlyi = none) :
    settle { s with sched := k } = { ticked s with
      b := k.b.getD s.b, l := k.l.getD s.l, md := k.md.getD s.md, mc := k.mc.getD s.mc
      br := k.br.getD s.br, lr := k.lr.getD s.lr, acc := k.acc.getD s.acc
      outs := match k.out with
        | none => s.outs
        | some (i, v) => s.outs.set i v
      pend := k.pend, pipe := k.pipe, lastStore := k.store.map storeAddress
      data := nextData { s with sched := k }, coef := nextCoef { s with sched := k }
      dreg0 := nextDreg0 { s with sched := k } } := by
  simp [settle, ticked, hp, hd, nextPc, nextPipe, nextRun, nextVol, nextDlyAge, nextDelayLog,
    nextDlyo, dlyLatency] <;> rfl

end Sys2Proof.Machine
end

