-- ==== Sys2Proof/Laws/Writes.lean ====
section
/-! SUPPORT. A meaning as the list of writes it schedules (00_scope.md R12): the list depends on the
state before the word alone, whatever other fields have scheduled, so that a word schedules the
lists of its five fields one after the other. -/

namespace Sys2Proof.Machine

/-- One scheduled write. -/
inductive Write where
  | b (v : Data)
  | l (v : Data)
  | md (v : Data)
  | mc (v : Coef)
  | br (v : Data)
  | lr (v : Data)
  | acc (v : Acc)
  /-- The ALU2 CLRACC, no second write beside the ALU1 one. -/
  | accAgain
  | dlyi (v : Data)
  | out (k : Fin 8) (v : OutWord)
  | pend (f : Bool)
  | pipe (p : Pipe)
  | store (q : StoreReq)
  | dlyPtr (p : Addr)

/-- The shared operation that schedules the write. -/
def Write.apply : Write → State → State
  | .b v => setB v
  | .l v => setL v
  | .md v => setMd v
  | .mc v => setMc v
  | .br v => setBr v
  | .lr v => setLr v
  | .acc v => setAcc v
  | .accAgain => clearAccAgain
  | .dlyi v => setDlyi v
  | .out k v => setOut k v
  | .pend f => fun s => { s with sched := { s.sched with pend := some f } }
  | .pipe p => fun s => { s with sched := { s.sched with pipe := some p } }
  | .store q => schedStore q
  | .dlyPtr p => selectPointer p

/-- The register written, if it is one that two fields may not both write (10_state.md R46). -/
def Write.reg : Write → Option RegName
  | .b _ => some .b
  | .l _ => some .l
  | .md _ => some .md
  | .mc _ => some .mc
  | .br _ => some .br
  | .lr _ => some .lr
  | .acc _ | .accAgain => some .acc
  | .dlyi _ => some .dlyi
  | .out k _ => some (.out k)
  | _ => none

/-- Schedules the writes of a list in its order. -/
def applyAll (ws : List Write) (s : State) : State := ws.foldl (fun t w => w.apply t) s

@[simp] theorem applyAll_nil (s : State) : applyAll [] s = s := rfl

@[simp] theorem applyAll_cons (w : Write) (ws : List Write) (s : State) :
    applyAll (w :: ws) s = applyAll ws (w.apply s) := rfl

theorem applyAll_append (ws vs : List Write) (s : State) :
    applyAll (ws ++ vs) s = applyAll vs (applyAll ws s) := List.foldl_append ..

/-- A write changes only what is scheduled, and keeps the store the word has announced. -/
theorem Write.apply_sched (w : Write) (s : State) :
    ∃ k, k.storeTo = s.sched.storeTo ∧ w.apply s = { s with sched := k } := by
  cases w
  case accAgain =>
    simp only [Write.apply, clearAccAgain]
    split
    · exact ⟨s.sched, rfl, rfl⟩
    · exact ⟨(clearAcc s).sched, rfl, rfl⟩
  all_goals (refine ⟨_, ?_, rfl⟩; rfl)

theorem applyAll_sched (ws : List Write) (s : State) :
    ∃ k, k.storeTo = s.sched.storeTo ∧ applyAll ws s = { s with sched := k } := by
  induction ws generalizing s with
  | nil => exact ⟨s.sched, rfl, rfl⟩
  | cons w ws ih =>
    obtain ⟨k, hk, e⟩ := w.apply_sched s
    obtain ⟨k', hk', e'⟩ := ih (w.apply s)
    exact ⟨k', by rw [hk', e, hk], by rw [applyAll_cons, e', e]⟩

/-! ### Reads do not see what is scheduled -/

theorem memReadData_sched {a : Addr} {s : State} {k : Sched} (h : k.storeTo = s.sched.storeTo) :
    memReadData a { s with sched := k } = memReadData a s := by
  simp only [memReadData, h, siteOf_sched]

theorem memReadCoef_sched {a : Addr} {s : State} {k : Sched} (h : k.storeTo = s.sched.storeTo) :
    memReadCoef a { s with sched := k } = memReadCoef a s := by
  simp only [memReadCoef, h, siteOf_sched]

/-- From `s`, `f` schedules a list of writes of different registers, the same list whatever is
scheduled already. -/
def Schedules (f : State → Result) (s t : State) : Prop :=
  ∃ ws : List Write, t = applyAll ws s ∧ (ws.filterMap Write.reg).Nodup ∧
    ∀ k, k.storeTo = s.sched.storeTo →
      f { s with sched := k } = .next (applyAll ws { s with sched := k })

theorem Schedules.none {f : State → Result} {s : State}
    (hf : ∀ k, f { s with sched := k } = .next { s with sched := k }) : Schedules f s s :=
  ⟨[], rfl, List.nodup_nil, fun k _ => hf k⟩

theorem Schedules.one {f : State → Result} {s t : State} (w : Write) (h : f s = .next t)
    (h1 : f s = .next (w.apply s))
    (hf : ∀ k, f { s with sched := k } = .next (w.apply { s with sched := k })) :
    Schedules f s t := by
  rw [h1] at h
  injection h with h
  refine ⟨[w], h.symm, ?_, fun k _ => hf k⟩
  cases hw : w.reg <;> simp [hw]

theorem addTo_schedules {a : OperandA} {b : OperandB} {c : Clip} {d : Dest} {s t : State}
    (h : addTo a b c d s = .next t) : Schedules (addTo a b c d) s t := by
  cases d with
  | acc => exact .one (.acc _) h rfl fun _ => rfl
  | b => exact .one (.b _) h rfl fun _ => rfl
  | l => exact .one (.l _) h rfl fun _ => rfl
  | md => exact .one (.md _) h rfl fun _ => rfl
  | mc => exact .one (.mc _) h rfl fun _ => rfl
  | dlyi => exact .one (.dlyi _) h rfl fun _ => rfl
  | out j => exact .one (.out j _) h rfl fun _ => rfl
  | mdb =>
    rw [addTo_next h]
    exact ⟨[.md _, .b _, .acc 0], rfl, by simp [Write.reg], fun _ _ => rfl⟩

theorem loadData_schedules {a : Addr} {dest : Data → State → State} {s t : State}
    (ws : Data → List Write) (hd : ∀ v u, dest v u = applyAll (ws v) u)
    (hn : ∀ v, ((ws v).filterMap Write.reg).Nodup) (h : loadData a dest s = .next t) :
    Schedules (loadData a dest) s t := by
  obtain ⟨v, hv, rfl⟩ := loadData_next h
  refine ⟨ws v, hd v s, hn v, fun k hk => ?_⟩
  rw [loadData_of_ok ((memReadData_sched hk).trans hv), hd]

theorem loadCoef_schedules {a : Addr} {dest : Coef → State → State} {s t : State}
    (ws : Coef → List Write) (hd : ∀ v u, dest v u = applyAll (ws v) u)
    (hn : ∀ v, ((ws v).filterMap Write.reg).Nodup) (h : loadCoef a dest s = .next t) :
    Schedules (loadCoef a dest) s t := by
  obtain ⟨v, hv, rfl⟩ := loadCoef_next h
  refine ⟨ws v, hd v s, hn v, fun k hk => ?_⟩
  rw [loadCoef_of_ok ((memReadCoef_sched hk).trans hv), hd]

theorem loadIf_schedules {c : Bool} {load : State → Result} {s t : State}
    (hl : load s = .next t → Schedules load s t) (h : loadIf c load s = .next t) :
    Schedules (loadIf c load) s t := by
  obtain ⟨rfl, h⟩ | ⟨rfl, rfl⟩ := loadIf_next h
  · exact hl h
  · exact .none fun _ => rfl

theorem storeData_schedules {a : Addr} {v : Data} {s t : State}
    (h : storeData a v s = .next t) : Schedules (storeData a v) s t := by
  obtain ⟨rfl, -⟩ | ⟨ha, -⟩ := storeData_next h
  · exact .one (.store (.dreg0 v)) h rfl fun _ => rfl
  · exact .one (.store (.data a v)) h (storeData_of_storable ha)
      fun k => storeData_of_storable (s := { s with sched := k }) ha

theorem storeCoef_schedules {a : Addr} {v : Data} {s t : State}
    (h : storeCoef a v s = .next t) : Schedules (storeCoef a v) s t := by
  obtain ⟨ha, -⟩ := storeCoef_next h
  have go : ∀ u : State, u.cfg = s.cfg →
      storeCoef a v u = .next (schedStore (.coef a (v.setWidth 28)) u) := fun u e => by
    simp only [storeCoef, e, Nat.not_le.mpr ha, if_false]
  exact .one (.store (.coef a (v.setWidth 28))) h (go s rfl) fun k => go _ rfl

theorem branchIf_schedules {c : Bool} {a : Addr} {s t : State}
    (h : branchIf c a s = .next t) : Schedules (branchIf c a) s t := by
  obtain ⟨h1, h2, -⟩ := branchIf_next h
  have go : ∀ k, branchIf c a { s with sched := k } =
      .next (schedPipe (if c then some a else none) false { s with sched := k }) := fun k => by
    have h3 : inOwnWords a { s with sched := k } = false := h1
    simp [branchIf, h3, Nat.not_le.mpr h2]
  exact .one (.pipe ⟨pipeClear, if c then some a else none, false⟩) h (go s.sched) go

/-- What a meaning schedules: a list of writes of different registers, the same whatever is
scheduled already. -/
theorem exec_schedules {i : Instr} {s t : State} (h : exec i s = .next t) :
    Schedules (exec i) s t := by
  cases i <;> first
    | exact addTo_schedules h
    | exact .one (.br _) h rfl fun _ => rfl
    | exact .one (.lr _) h rfl fun _ => rfl
    | exact .one (.acc 0) h rfl fun _ => rfl
    | exact .one .accAgain h rfl fun _ => rfl
    | exact .one (.pend _) h rfl fun _ => rfl
    | exact .one (.pipe _) h rfl fun _ => rfl
    | exact .one (.dlyPtr _) h rfl fun _ => rfl
    | exact branchIf_schedules h
    | exact loadData_schedules (fun v => [.b v]) (fun _ _ => rfl) (by simp [Write.reg]) h
    | exact loadData_schedules (fun v => [.l v]) (fun _ _ => rfl) (by simp [Write.reg]) h
    | exact loadData_schedules (fun v => [.md v]) (fun _ _ => rfl) (by simp [Write.reg]) h
    | exact loadData_schedules (fun v => [.b v, .l v]) (fun _ _ => rfl) (by simp [Write.reg]) h
    | exact loadData_schedules (fun v => [.mc (coefOfData v)]) (fun _ _ => rfl)
        (by simp [Write.reg]) h
    | exact loadIf_schedules
        (loadData_schedules (fun v => [.b v]) (fun _ _ => rfl) (by simp [Write.reg])) h
    | exact loadIf_schedules
        (loadData_schedules (fun v => [.l v]) (fun _ _ => rfl) (by simp [Write.reg])) h
    | exact loadIf_schedules
        (loadData_schedules (fun v => [.md v]) (fun _ _ => rfl) (by simp [Write.reg])) h
    | exact loadCoef_schedules (fun v => [.mc v]) (fun _ _ => rfl) (by simp [Write.reg]) h
    | exact loadCoef_schedules (fun v => [.l (dataOfCoef v)]) (fun _ _ => rfl)
        (by simp [Write.reg]) h
    | exact loadIf_schedules
        (loadCoef_schedules (fun v => [.mc v]) (fun _ _ => rfl) (by simp [Write.reg])) h
    | exact storeData_schedules h
    | exact storeCoef_schedules h
    | (injection h with h
       subst h
       exact .none fun _ => rfl)
    | (have h' := h
       simp only [exec, execStDlyoData] at h'
       split at h'
       · rename_i hr
         obtain ⟨ws, e1, e2, e3⟩ := storeData_schedules h'
         refine ⟨ws, e1, e2, fun k hk => ?_⟩
         have hr' : delayReady { s with sched := k } = true := hr
         simp only [exec, execStDlyoData, hr', if_true]
         exact e3 k hk
       · cases h')

/-- A word whose operations each go through on the state it sees schedules their lists, in field
order. -/
theorem execFields_writes {w : InsnWord} {s : State}
    (h : ∀ n : Fin 5, ∃ u, exec (fieldOp w n) s = .next u) :
    ∃ ws : Fin 5 → List Write,
      (∀ n, exec (fieldOp w n) s = .next (applyAll (ws n) s) ∧
        ((ws n).filterMap Write.reg).Nodup) ∧
      execFields w s = .next (applyAll (ws 0 ++ ws 1 ++ ws 2 ++ ws 3 ++ ws 4) s) := by
  have h' : ∀ n : Fin 5, ∃ ws : List Write, exec (fieldOp w n) s = .next (applyAll ws s) ∧
      (ws.filterMap Write.reg).Nodup ∧ ∀ k, k.storeTo = s.sched.storeTo →
        exec (fieldOp w n) { s with sched := k } =
          .next (applyAll ws { s with sched := k }) := by
    intro n
    obtain ⟨u, hu⟩ := h n
    obtain ⟨ws, rfl, h2, h3⟩ := exec_schedules hu
    exact ⟨ws, hu, h2, h3⟩
  choose ws h1 h2 h3 using h'
  refine ⟨ws, fun n => ⟨h1 n, h2 n⟩, ?_⟩
  have go : ∀ (n : Fin 5) (vs : List Write),
      exec (fieldOp w n) (applyAll vs s) = .next (applyAll (vs ++ ws n) s) := by
    intro n vs
    obtain ⟨k, hk, e⟩ := applyAll_sched vs s
    rw [applyAll_append, e]
    exact h3 n k hk
  have e0 : exec w.alu1 s = _ := h1 0
  have e1 : exec w.alu2 (applyAll (ws 0) s) = _ := go 1 _
  have e2 : exec w.mop1 (applyAll (ws 0 ++ ws 1) s) = _ := go 2 _
  have e3 : exec w.mop2 (applyAll (ws 0 ++ ws 1 ++ ws 2) s) = _ := go 3 _
  have e4 : exec w.mop3 (applyAll (ws 0 ++ ws 1 ++ ws 2 ++ ws 3) s) = _ := go 4 _
  simp only [execFields, e0, andThen_next, e1, e2, e3, e4]

end Sys2Proof.Machine
end

