-- ==== Sys2Proof/Tests/Slice0.lean ====
section
/-! SUPPORT. Tests: words written out from the encoding tables, the source's examples and the spec's
derived vectors (95_test_vectors.md; S, F and section numbers are that file's), the ill-formed words
that the checks refuse, and for every obligation with hypotheses a concrete state that meets them. -/

namespace Sys2Proof.Tests

open Sys2Proof Sys2Proof.Machine

/-! ### Helpers -/

/-- The word `w` decodes, under the codes of `Config.initial`, to `x`. -/
def decodesTo (w : Nat) (x : InsnWord) : Bool :=
  match decode Config.initial (BitVec.ofNat 54 w) with
  | .ok y => y == x
  | .error _ => false

/-- What `f` reads of the next state. -/
def after {α : Type} (r : Result) (f : State → α) : Option α :=
  match r with
  | .next t => some (f t)
  | _ => none

/-- The fault a result ends in. -/
def faultOf (r : Result) : Option Fault :=
  match r with
  | .fault f => some f
  | _ => none

/-- A running state with a few words of memory, the instruction memory empty, at PC 16. -/
def small : State :=
  { State.reset with
    pc := 16
    run := .running
    frameClock := 0
    data := [(0x010, 0x123456789ABC), (0x011, 5), (0x3FF, 7)]
    coef := [(0x020, 0x6789ABC), (0x3FF, 0xF800000)] }

/-- BR after the word with only `i`, from B. -/
def brAfter (i : Instr) (b : Data) : Option Data :=
  after (execWord (wordAlu1 i) { small with b := b }) (·.br)

/-- LR after the word with only `i`, from L. -/
def lrAfter (i : Instr) (l : Data) : Option Data :=
  after (execWord (wordAlu1 i) { small with l := l }) (·.lr)

/-- LR after LOG2 or ALOG2 under the spec's reconstruction. -/
def logAfter (i : Instr) (l : Data) : Option Data :=
  after (execWord (wordAlu1 i)
    { small with l := l, cfg := { Config.initial with logs := .reconstruction } }) (·.lr)

/-- A register after the word with only the ALU2 operation `i`. -/
def addAfter {α : Type} (i : Instr) (f : State → α) (acc mr : Acc) (br lr : Data) : Option α :=
  after (execWord (wordAlu2 i) { small with acc := acc, mr := mr, br := br, lr := lr }) f

/-- DO1 of an `ADD(ACC,LR,CLP32,DO1)` with ACC = 0, for both values of CLP32_LSB. -/
def doAfter (lr : Data) : Option OutWord × Option OutWord :=
  let run (win : Clp32Window) :=
    after (execWord (wordAlu2 .addAccLrClp32Do1)
      { small with lr := lr, cfg := { Config.initial with clp32 := win } }) (·.outs[0])
  (run .lsb0, run .lsb8)

/-- B of an `ADD(BR,ZERO,CLP32,B)` for both values of CLP32_LSB. -/
def clp32After (br : Data) : Option Data × Option Data :=
  let run (win : Clp32Window) :=
    after (execWord (wordAlu2 .addBrZeroClp32B)
      { small with br := br, cfg := { Config.initial with clp32 := win } }) (·.b)
  (run .lsb0, run .lsb8)

/-- The flag a `COMP(BR,LR)` of two integers leaves pending. -/
def compOf (a b : Int) : Option (Option Bool) :=
  after (execWord (wordAlu2 .compBrLr)
    { small with br := BitVec.ofInt 48 a, lr := BitVec.ofInt 48 b }) (·.pend)

/-! ### Decoding: every constructor's word, written out from the tables of 30_encoding.md -/

/-- Table R101: every ALU1 code of an arithmetic operation, SHL(2) at 01011 (R111). -/
theorem test_decode_alu1 : ([
    (0x00000000000000, .nopAlu1), (0x02000000000000, .absB), (0x04000000000000, .negB),
    (0x06000000000000, .negL), (0x08000000000000, .log2), (0x0A000000000000, .alog2),
    (0x0C000000000000, .shr1), (0x0E000000000000, .shr2), (0x10000000000000, .shr3),
    (0x12000000000000, .shr4), (0x14000000000000, .shl1), (0x16000000000000, .shl2),
    (0x18000000000000, .shl3), (0x1A000000000000, .shl4), (0x1C000000000000, .absL),
    (0x1E000000000000, .clraccAlu1), (0x20000000000000, .thruB), (0x22000000000000, .thruL),
    (0x2C000000000000, .shl20)] : List (Nat × Instr)).all
    (fun p => decodesTo p.1 (wordAlu1 p.2)) = true := by decide

/-- Table R102, the ALU2 codes the first printed ones. -/
theorem test_decode_alu2_a : ([
    (0x00000000000000, .nopAlu2), (0x00040000000000, .addBrMrNoneMd),
    (0x00080000000000, .addBrMrNoneB), (0x000C0000000000, .addBrMrNoneL),
    (0x00100000000000, .addBrMrNoneMc), (0x00140000000000, .addBrMrNoneAcc),
    (0x00200000000000, .compBrMr), (0x00240000000000, .addBrLrNoneMd),
    (0x00280000000000, .addBrLrNoneB), (0x002C0000000000, .addBrLrNoneL),
    (0x00300000000000, .addBrLrNoneMc), (0x00400000000000, .compBrLr),
    (0x00440000000000, .addAccMrNoneMd), (0x00480000000000, .addAccMrNoneB),
    (0x004C0000000000, .addAccMrNoneL), (0x00500000000000, .addAccMrNoneMc),
    (0x00540000000000, .addAccMrNoneAcc), (0x00600000000000, .compAccMr),
    (0x00640000000000, .addAccLrNoneMd), (0x00680000000000, .addAccLrNoneB),
    (0x006C0000000000, .addAccLrNoneL), (0x00700000000000, .addAccLrNoneMc),
    (0x00740000000000, .addAccLrNoneAcc), (0x00800000000000, .compAccLr),
    (0x00A00000000000, .addBrMrClp32Do4)] : List (Nat × Instr)).all
    (fun p => decodesTo p.1 (wordAlu2 p.2)) = true := by decide

/-- Table R102, the next ALU2 codes. -/
theorem test_decode_alu2_b : ([
    (0x00B40000000000, .addBrMrClp32Do1), (0x00B80000000000, .addBrMrClp32Do2),
    (0x00BC0000000000, .addBrMrClp32Do3), (0x00C40000000000, .addBrLrClp32Do1),
    (0x00C80000000000, .addBrLrClp32Do2), (0x00CC0000000000, .addBrLrClp32Do3),
    (0x00D00000000000, .addBrLrClp32Do4), (0x00D40000000000, .addAccMrClp32Do1),
    (0x00D80000000000, .addAccMrClp32Do2), (0x00DC0000000000, .addAccMrClp32Do3),
    (0x00E00000000000, .addAccMrClp32Do4), (0x00E40000000000, .addAccLrClp32Do1),
    (0x00E80000000000, .addAccLrClp32Do2), (0x00EC0000000000, .addAccLrClp32Do3),
    (0x00F00000000000, .addAccLrClp32Do4), (0x01400000000000, .addAccZeroNoneB),
    (0x015C0000000000, .addBrZeroNoneMd), (0x01600000000000, .addBrZeroNoneB),
    (0x01640000000000, .addBrZeroNoneL), (0x01680000000000, .addBrZeroNoneMc),
    (0x016C0000000000, .addBrZeroClp32B), (0x01700000000000, .addBrMrClp32Do6),
    (0x01740000000000, .addBrMrClp32Do7), (0x01780000000000, .addBrLrClp32Do6),
    (0x017C0000000000, .addBrLrClp32Do7)] : List (Nat × Instr)).all
    (fun p => decodesTo p.1 (wordAlu2 p.2)) = true := by decide

/-- Table R102, the last ALU2 codes; CLRACC, `ADD(ACC,ZERO,NONE,L)` and `,MD)` at the codes of
`Config.initial` (R112, R118; log 7). -/
theorem test_decode_alu2_c : ([
    (0x01800000000000, .addAccMrClp32Do6), (0x01840000000000, .addAccMrClp32Do7),
    (0x01880000000000, .addAccLrClp32Do6), (0x018C0000000000, .addAccLrClp32Do7),
    (0x01A00000000000, .addAccZeroClp28Mc), (0x01A80000000000, .addAccZeroClp28B),
    (0x01AC0000000000, .addAccZeroClp28L), (0x01B00000000000, .addBrMrClp32Do5),
    (0x01B40000000000, .addBrLrClp32Do5), (0x01B80000000000, .addAccMrClp32Do5),
    (0x01BC0000000000, .addAccLrClp32Do5), (0x01C00000000000, .addBrMrClp32Do8),
    (0x01C40000000000, .addBrLrClp32Do8), (0x01C80000000000, .addAccMrClp32Do8),
    (0x01CC0000000000, .addAccLrClp32Do8), (0x01D00000000000, .addAccMrNoneMdb),
    (0x01D40000000000, .clraccAlu2), (0x01440000000000, .addAccZeroNoneL),
    (0x013C0000000000, .addAccZeroNoneMd)] : List (Nat × Instr)).all
    (fun p => decodesTo p.1 (wordAlu2 p.2)) = true := by decide

/-- Table R103 with AD1 = 0x123. -/
theorem test_decode_mop1 : ([
    (0x00000000000000, .nopMop1), (0x00002918000000, .ldDataMd 0x123),
    (0x00004918000000, .ldDataB 0x123), (0x00006918000000, .ldDataL 0x123),
    (0x0000A918000000, .ldcDataB 0x123), (0x0000C918000000, .ldcDataL 0x123),
    (0x0000E918000000, .lncDataMd 0x123), (0x00010918000000, .lncDataB 0x123),
    (0x00012918000000, .lncDataL 0x123), (0x00028918000000, .ldcDataMd 0x123),
    (0x00038918000000, .ldDataBl 0x123), (0x0003E918000000, .ldDataMc 0x123)] :
    List (Nat × Instr)).all
    (fun p => decodesTo p.1 (wordMop1 p.2)) = true := by decide

/-- Table R104 with AD2 = 0x2AA. -/
theorem test_decode_mop2 : ([
    (0x00000000000000, .nopMop2), (0x00000001AA8000, .ldCoefMc 0x2AA),
    (0x00000002AA8000, .ldcCoefMc 0x2AA), (0x00000006AA8000, .ldCoefL 0x2AA),
    (0x00000007AA8000, .lncCoefMc 0x2AA)] : List (Nat × Instr)).all
    (fun p => decodesTo p.1 (wordMop2 p.2)) = true := by decide

/-- Table R105 with AD3 = 0x155; ST(VOL,...) at 0101 (R114; log 7). -/
theorem test_decode_mop3 : ([
    (0x00000000000000, .nopMop3), (0x00000000000555, .stMdData 0x155),
    (0x00000000000955, .stBData 0x155), (0x00000000000D55, .stLData 0x155),
    (0x00000000001155, .stDlyoData 0x155), (0x00000000001955, .stDiData 0x155),
    (0x00000000001D55, .stMdCoef 0x155), (0x00000000002155, .stBCoef 0x155),
    (0x00000000002555, .stLCoef 0x155), (0x00000000001555, .stVolData 0x155)] :
    List (Nat × Instr)).all
    (fun p => decodesTo p.1 (wordMop3 p.2)) = true := by decide

/-- The PC operations with PCADDR, and the DLYI writes with DLYPTR, at MOP3 code 0000 (R113). -/
theorem test_decode_pairs : ([
    (0x24000000000123, ⟨(.jmp 0x123), .nopAlu2, .nopMop1, .nopMop2, .pcaddr 0x123⟩),
    (0x26000000000123, ⟨(.boc 0x123), .nopAlu2, .nopMop1, .nopMop2, .pcaddr 0x123⟩),
    (0x28000000000123, ⟨(.bnc 0x123), .nopAlu2, .nopMop1, .nopMop2, .pcaddr 0x123⟩),
    (0x2A000000000123, ⟨.stop, .nopAlu2, .nopMop1, .nopMop2, .pcaddr 0x123⟩),
    (0x001C00000000F3, ⟨.nopAlu1, .addBrMrNoneDlyi, .nopMop1, .nopMop2, .dlyptr 0x0F3⟩),
    (0x003C00000000F3, ⟨.nopAlu1, .addBrLrNoneDlyi, .nopMop1, .nopMop2, .dlyptr 0x0F3⟩),
    (0x005C00000000F3, ⟨.nopAlu1, .addAccMrNoneDlyi, .nopMop1, .nopMop2, .dlyptr 0x0F3⟩),
    (0x007C00000000F3, ⟨.nopAlu1, .addAccLrNoneDlyi, .nopMop1, .nopMop2, .dlyptr 0x0F3⟩)] :
    List (Nat × InsnWord)).all
    (fun p => decodesTo p.1 p.2) = true := by decide

/-- The encoding vectors of section 6, decoded and encoded back. -/
theorem test_encoding_vectors : ([
    (0, .nops), (0x24000000000155, wordBranch (.jmp 0x155) 0x155),
    (0x280000000003FF, wordBranch (.bnc 0x3FF) 0x3FF),
    (0x2600000000000A, wordBranch (.boc 10) 10),
    (0x02042009004401, ⟨.absB, .addBrMrNoneMd, .ldDataMd 1, .ldCoefMc 1, .stMdData 1⟩),
    (0x2DD3FFFFFFE7FF,
      ⟨.shl20, .addAccMrNoneMdb, .ldDataMc 0x3FF, .lncCoefMc 0x3FF, .stLCoef 0x3FF⟩),
    (0x00005808000000, wordMop1 (.ldDataB 0x301)),
    (0x00000000000ABE, wordMop3 (.stBData 0x2BE)),
    (0x238C6230001807, ⟨.thruL, .addAccLrClp32Do7, .ldDataL 0x046, .nopMop2, .stDiData 7⟩),
    (0x0082891AAA8000, ⟨.nopAlu1, .compAccLr, .ldcDataMd 0x123, .ldcCoefMc 0x2AA, .nopMop3⟩),
    (0x003C00000003FF, ⟨.nopAlu1, .addBrLrNoneDlyi, .nopMop1, .nopMop2, .dlyptr 0x3FF⟩),
    (0x00038AA92A8000, ⟨.nopAlu1, .nopAlu2, .ldDataBl 0x155, .ldCoefMc 0x0AA, .nopMop3⟩)] :
    List (Nat × InsnWord)).all (fun p =>
      decodesTo p.1 p.2 && encode Config.initial p.2 == some (BitVec.ofNat 54 p.1)) = true := by
  decide

/-- F1 to F5: unassigned codes, the fault with the field and the code. -/
theorem test_illegal_encodings : ([
    (0x2E000000000000, .illegalEncoding .alu1 0x17 ⟨16, 0⟩),
    (0x00180000000000, .illegalEncoding .alu2 6 ⟨16, 0⟩),
    (0x00008000000000, .illegalEncoding .mop1 4 ⟨16, 0⟩),
    (0x00000003000000, .illegalEncoding .mop2 3 ⟨16, 0⟩),
    (0x00000000002800, .illegalEncoding .mop3 10 ⟨16, 0⟩)] : List (Nat × Fault)).all (fun p =>
      faultOf (step { small with imem := [(16, BitVec.ofNat 54 p.1)] }) == some p.2) = true := by
  decide

/-! ### The checks on a word refuse an ill-formed one -/

/-- R100: an operation in a field not its own. -/
theorem test_slots_refused :
    (⟨.nopAlu2, .nopAlu2, .nopMop1, .nopMop2, .nopMop3⟩ : InsnWord).slotsOk = false ∧
    (wordAlu2 .absB).wellFormed = false ∧ (wordMop1 (.ldCoefMc 0)).wellFormed = false ∧
    (wordMop2 (.ldDataB 0)).wellFormed = false ∧ (wordMop3 .stop).wellFormed = false := by decide

/-- R161(a) to (d), F6, F6b: another operation beside JMP, no PCADDR, another target in PCADDR, STOP
with a store, PCADDR alone. -/
theorem test_pc_form_refused :
    pcFormBad ⟨.jmp 20, .nopAlu2, .ldDataB 0x010, .nopMop2, .pcaddr 20⟩ = true ∧
    pcFormBad (wordAlu1 (.jmp 20)) = true ∧ pcFormBad (wordBranch (.boc 20) 21) = true ∧
    pcFormBad ⟨.stop, .nopAlu2, .nopMop1, .nopMop2, .stBData 0⟩ = true ∧
    pcFormBad (wordMop3 (.pcaddr 5)) = true ∧
    (wordMop3 (.pcaddr 5)).wellFormed = false := by decide

/-- R238, F9: MC from DATA beside L from COEF. -/
theorem test_bus_conflict_refused :
    (⟨.nopAlu1, .nopAlu2, .ldDataMc 0x010, .ldCoefL 0x020, .nopMop3⟩ : InsnWord).wellFormed =
      false ∧
    faultOf (execWord ⟨.nopAlu1, .nopAlu2, .ldDataMc 0x010, .ldCoefL 0x020, .nopMop3⟩ small) =
      some (.busConflict ⟨16, 0⟩) := by decide

/-- R283, F14: a DLYI write beside a store. -/
theorem test_delay_pointer_refused :
    (⟨.nopAlu1, .addBrLrNoneDlyi, .nopMop1, .nopMop2, .stBData 0x040⟩ : InsnWord).wellFormed =
      false ∧
    faultOf (execWord ⟨.nopAlu1, .addBrLrNoneDlyi, .nopMop1, .nopMop2, .stBData 0x040⟩ small) =
      some (.delayPointerMissing ⟨16, 0⟩) := by decide

/-! ### ALU1 (sections 3.1 and 4.1) -/

/-- S1 and the most negative word. -/
theorem test_abs_b : brAfter .absB 0xFFFFFE800000 = some 0x000001800000 ∧
    brAfter .absB 0x800000000000 = some 0x800000000000 := by decide

/-- S2 and section 4.1. -/
theorem test_abs_l : lrAfter .absL 0x000001800000 = some 0x000001800000 ∧
    lrAfter .absL 0xFFFFFE800000 = some 0x000001800000 := by decide

/-- S11 and section 4.1. -/
theorem test_neg_b : brAfter .negB 0xFFFFFF800000 = some 0x000000800000 ∧
    brAfter .negB 0x7FFFFFFFFFFF = some 0x800000000001 := by decide

/-- S12. -/
theorem test_neg_l : lrAfter .negL 0xFFFFFE800000 = some 0x000001800000 := by decide

/-- S16, S17 and section 4.1: SHR is logical. -/
theorem test_shr : brAfter .shr1 0xFFFFFF800000 = some 0x7FFFFFC00000 ∧
    brAfter .shr2 0x000000800000 = some 0x000000200000 ∧
    brAfter .shr3 0x000000800000 = some 0x000000100000 ∧
    brAfter .shr4 0x80000000000F = some 0x080000000000 := by decide

/-- S14 and section 4.1: SHL loses the top bits. -/
theorem test_shl : brAfter .shl1 0x800000000001 = some 0x000000000002 ∧
    brAfter .shl2 0x000000800000 = some 0x000002000000 ∧
    brAfter .shl3 0x000000800000 = some 0x000004000000 ∧
    brAfter .shl4 0x123456789ABC = some 0x23456789ABC0 ∧
    brAfter .shl20 0x000000000008 = some 0x000000800000 := by decide

/-- S19, S20. -/
theorem test_thru : brAfter .thruB 0xFFFFFF800000 = some 0xFFFFFF800000 ∧
    lrAfter .thruL 0x00ABCDEF1234 = some 0x00ABCDEF1234 := by decide

/-- S8, S9, S3, S4: the source's logarithm examples hold under both settings of the parameter. -/
theorem test_logs_source : lrAfter .log2 0x200000000000 = some 0x000000F80000 ∧
    lrAfter .log2 0x008000000000 = some 0x000003F80000 ∧
    lrAfter .alog2 0x000000F80000 = some 0x000002000000 ∧
    lrAfter .alog2 0x000000780000 = some 0x000004000000 := by decide

/-- Section 4.1: the rows of the reconstruction (R138). -/
theorem test_log2_reconstruction : ([
    (0x200000000000, 0x000000F80000), (0x008000000000, 0x000003F80000),
    (0x400000000000, 0x000000780000), (0x600000000000, 0x000000380000), (0x7FFFFFFFFFFF, 0),
    (0x000000800000, 0x00000BF80000), (1, 0x00000FF80000), (0, 0x00000FF80000),
    (0x800000000000, 0x00000FF80000)] : List (Data × Data)).all
    (fun p => logAfter .log2 p.1 == some p.2) = true := by decide

/-- Section 4.1: the rows of the reconstruction (R139). -/
theorem test_alog2_reconstruction : ([
    (0x000000F80000, 0x000002000000), (0x000000780000, 0x000004000000),
    (0x000000380000, 0x000006000000), (0x000003F80000, 0x000000080000),
    (0, 0x000007C00000), (0x000000800000, 0x000003E00000), (0x00000FF80000, 0),
    (0xFFFFFFFFFFFF, 0)] : List (Data × Data)).all
    (fun p => logAfter .alog2 p.1 == some p.2) = true := by decide

/-- S7, S40, and both CLRACC in one word. -/
theorem test_clracc :
    after (execWord (wordAlu1 .clraccAlu1) { small with acc := 0x7FFFFFFFFFFFFFFFFFF }) (·.acc) =
      some 0 ∧
    after (execWord (wordAlu2 .clraccAlu2) { small with acc := 0x7FFFFFFFFFFFFFFFFFF }) (·.acc) =
      some 0 ∧
    after (execWord ⟨.clraccAlu1, .clraccAlu2, .nopMop1, .nopMop2, .nopMop3⟩
      { small with acc := 1 }) (·.acc) = some 0 := by decide

/-! ### The multiplier and ADD (sections 3.2, 4.2 to 4.5) -/

/-- Section 4.2, the MR column. -/
theorem test_multiplier : ([
    (0x000000800000, 0x0800000, 0x0000000400000000000),
    (0xFFFFFF800000, 0xF800000, 0x0000000400000000000),
    (0x7FFFFFFFFFFF, 0x7FFFFFF, 0x3FFFFFF7FFFF8000001),
    (0x800000000000, 0x8000000, 0x4000000000000000000),
    (0x800000000000, 0x7FFFFFF, 0xC000000800000000000),
    (0xFFFFFFFFFFFF, 0x0400000, 0xFFFFFFFFFFFFFC00000),
    (0x000012345678, 0x0C00000, 0x000000DA740DA000000)] : List (Data × Coef × Acc)).all (fun p =>
      after (execWord .nops { small with md := p.1, mc := p.2.1 }) (·.mr) == some p.2.2) =
    true := by decide

/-- S32, S33 and section 4.3: ADD(BR,LR,NONE,dest). -/
theorem test_add_br_lr :
    addAfter .addBrLrNoneB (·.b) 0 0 0x1C 0x123 = some 0x13F ∧
    addAfter .addBrLrNoneL (·.l) 0 0 0x7FFFFFFFFFFF 1 = some 0x7FFFFFFFFFFF ∧
    addAfter .addBrLrNoneMd (·.md) 0 0 0x800000000000 0xFFFFFFFFFFFF = some 0x800000000000 ∧
    addAfter .addBrLrNoneMc (·.mc) 0 0 0x00000FFFFFFF 1 = some 0 := by decide

/-- Section 4.3: ADD(BR,MR,NONE,dest). -/
theorem test_add_br_mr :
    addAfter .addBrMrNoneB (·.b) 0 0x91800000 0x1C 0 = some 0x13F ∧
    addAfter .addBrMrNoneAcc (·.acc) 0 0x0000000200000000000 0x000000800000 0 =
      some 0x0000000600000000000 ∧
    addAfter .addBrMrNoneL (·.l) 0 0x0000000200000000000 0x000000800000 0 = some 0x000000C00000 ∧
    addAfter .addBrMrNoneMd (·.md) 0 0xFFFFFFFFFFFFFFFFFFF 0 0 = some 0 ∧
    addAfter .addBrMrNoneMc (·.mc) 0 0 0xFFFFFFFFFFFF 0 = some 0xFFFFFFF := by decide

/-- Section 4.3: ADD(ACC,MR,NONE,dest), truncation toward zero and saturation. -/
theorem test_add_acc_mr :
    addAfter .addAccMrNoneB (·.b) 0 0xFFFFFFFFFFFFF7FFFFF 0 0 = some 0xFFFFFFFFFFFF ∧
    addAfter .addAccMrNoneAcc (·.acc) 0x7FFFFFFFFFFFFFFFFFF 1 0 0 = some 0x8000000000000000000 ∧
    addAfter .addAccMrNoneL (·.l) 0x0400000000000000000 0 0 0 = some 0x7FFFFFFFFFFF ∧
    addAfter .addAccMrNoneMd (·.md) 0xFC00000000000000000 0xFFFFFFFFFFFFFFFFFFF 0 0 =
      some 0x800000000000 ∧
    addAfter .addAccMrNoneMc (·.mc) 0 0x00000091A2B3C000000 0 0 = some 0x2345678 := by decide

/-- Section 4.3: MDB writes MD and B and clears ACC. -/
theorem test_add_mdb :
    addAfter .addAccMrNoneMdb (fun t => (t.md, t.b, t.acc)) 0x0000000100000000000
      0x0000000200000000000 0 0 = some (0x000000600000, 0x000000600000, 0) := by decide

/-- S22 and section 4.3: ADD(ACC,LR,NONE,dest). -/
theorem test_add_acc_lr :
    addAfter .addAccLrNoneAcc (·.acc) 0 0 0 0xC = some 0x6000000 ∧
    addAfter .addAccLrNoneB (·.b) 0x7FFFFF 0 0 0xFFFFFFFFFFFF = some 0 ∧
    addAfter .addAccLrNoneL (·.l) 0 0 0 0x000012345678 = some 0x000012345678 ∧
    addAfter .addAccLrNoneMd (·.md) 0x7FFFFFFFFFFFFFFFFFF 0 0 0x7FFFFFFFFFFF =
      some 0x800000000000 ∧
    addAfter .addAccLrNoneMc (·.mc) 0 0 0 0xFFFFFF800000 = some 0xF800000 := by decide

/-- Section 4.3: the operand ZERO. -/
theorem test_add_zero :
    addAfter .addAccZeroNoneB (·.b) 0x000FFFFFFFFFF800000 0 0 0 = some 0x01FFFFFFFFFF ∧
    addAfter .addAccZeroNoneL (·.l) 0x6000000 0 0 0 = some 0xC ∧
    addAfter .addAccZeroNoneMd (·.md) 0x6000000 0 0 0 = some 0xC ∧
    addAfter .addBrZeroNoneB (·.b) 0 0 0xFFFFFFFFFFFF 0 = some 0xFFFFFFFFFFFF ∧
    addAfter .addBrZeroNoneL (·.l) 0 0 0x800000000000 0 = some 0x800000000000 ∧
    addAfter .addBrZeroNoneMd (·.md) 0 0 0x7FFFFFFFFFFF 0 = some 0x7FFFFFFFFFFF ∧
    addAfter .addBrZeroNoneMc (·.mc) 0 0 0x123456789ABC 0 = some 0x6789ABC := by decide

/-- Section 4.5: CLP28. -/
theorem test_clp28 :
    addAfter .addAccZeroClp28Mc (·.mc) 0x0000004000000000000 0 0 0 = some 0x7FFFFFF ∧
    addAfter .addAccZeroClp28Mc (·.mc) 0xFFFFFFBC00000000000 0 0 0 = some 0x8000000 ∧
    addAfter .addAccZeroClp28B (·.b) 0x0000004000000000000 0 0 0 = some 0x000007FFFFFF ∧
    addAfter .addAccZeroClp28L (·.l) 0xFFFFFFC000000000000 0 0 0 = some 0xFFFFF8000000 := by decide

/-- Section 4.4, destination B. -/
theorem test_clp32_b :
    clp32After 0x000100000000 = (some 0x00007FFFFFFF, some 0x000100000000) ∧
    clp32After 0xFF7FFFFFFFFF = (some 0xFFFF80000000, some 0xFF8000000000) := by decide

/-- Section 4.4, destination DO, for CLP32_LSB 0 and 8. -/
theorem test_clp32_do : ([
    (0x00000000000A, 0x0000000A, 0), (0x00007FFFFFFF, 0x7FFFFFFF, 0x007FFFFF),
    (0x000080000000, 0x7FFFFFFF, 0x00800000), (0xFFFF7FFFFFFF, 0x80000000, 0xFF7FFFFF),
    (0x008000000000, 0x7FFFFFFF, 0x7FFFFFFF), (0xFFFFFFFFFEFF, 0xFFFFFEFF, 0xFFFFFFFE),
    (0xFF7FFFFFFFFF, 0x80000000, 0x80000000)] : List (Data × OutWord × OutWord)).all
    (fun p => doAfter p.1 == (some p.2.1, some p.2.2)) = true := by decide

/-- S31, S34, S24 and section 4.4: the other operand pairs with CLP32, CLP32_LSB = 0. -/
theorem test_clp32_operands :
    addAfter .addBrLrClp32Do4 (·.outs[3]) 0 0 0x1C 0x123 = some 0x13F ∧
    addAfter .addBrMrClp32Do3 (·.outs[2]) 0 0x91800000 0x1C 0 = some 0x13F ∧
    addAfter .addAccMrClp32Do6 (·.outs[5]) 0 0x55800000 0 0 = some 0xAB ∧
    addAfter .addAccMrClp32Do2 (·.outs[1]) 0x7FFFFFFFFFFFFFFFFFF 1 0 0 = some 0x80000000 := by
  decide

/-! ### COMP (section 4.6) -/

/-- Table 16, all seventeen rows. -/
theorem test_comp_table16 : ([
    (1, 1, false), (-1, 1, false), (1, -1, true), (-1, -1, true), (2, 1, false), (-2, 1, true),
    (2, -1, true), (-2, -1, true), (1, 2, false), (-1, 2, false), (1, -2, false), (-1, -2, true),
    (0, 1, false), (1, 0, false), (0, -1, false), (-1, 0, true), (0, 0, false)] :
    List (Int × Int × Bool)).all (fun p => compOf p.1 p.2.1 == some (some p.2.2)) = true := by
  decide

/-- The further vectors: the other operand pairs at the ends of their ranges. -/
theorem test_comp_ends :
    addAfter .compBrMr (·.pend) 0 0xFFFFFFFFFFFFFFFFFFF 1 0 = some (some true) ∧
    addAfter .compAccMr (·.pend) 0x8000000000000000000 0x8000000000000000000 0 0 =
      some (some true) ∧
    addAfter .compAccMr (·.pend) 0x7FFFFFFFFFFFFFFFFFF 0x8000000000000000000 0 0 =
      some (some false) ∧
    addAfter .compAccLr (·.pend) 0 0 0 0xFFFFFFFFFFFF = some (some false) ∧
    addAfter .compBrLr (·.pend) 0 0 0x800000000000 0x7FFFFFFFFFFF = some (some true) := by decide

/-! ### MOP1, MOP2, MOP3 (sections 3.3, 4.7 to 4.9) -/

/-- S43 and section 4.7. -/
theorem test_loads_data :
    after (execWord (wordMop1 (.ldDataB 0x010)) small) (·.b) = some 0x123456789ABC ∧
    after (execWord (wordMop1 (.ldDataL 0x010)) small) (·.l) = some 0x123456789ABC ∧
    after (execWord (wordMop1 (.ldDataMd 0x010)) small) (·.md) = some 0x123456789ABC ∧
    after (execWord (wordMop1 (.ldDataBl 0x010)) small) (fun t => (t.b, t.l)) =
      some (0x123456789ABC, 0x123456789ABC) ∧
    after (execWord (wordMop1 (.ldDataMc 0x010)) small) (·.mc) = some 0x6789ABC := by decide

/-- Section 4.7: LDC and LNC, DATA[0x011] = 5. -/
theorem test_conditional_loads : ([(true, 5, 0), (false, 0, 5)] : List (Bool × Data × Data)).all
    (fun p =>
      let s := { small with acpb := p.1 }
      after (execWord (wordMop1 (.ldcDataB 0x011)) s) (·.b) == some p.2.1 &&
      after (execWord (wordMop1 (.ldcDataL 0x011)) s) (·.l) == some p.2.1 &&
      after (execWord (wordMop1 (.ldcDataMd 0x011)) s) (·.md) == some p.2.1 &&
      after (execWord (wordMop1 (.lncDataB 0x011)) s) (·.b) == some p.2.2 &&
      after (execWord (wordMop1 (.lncDataL 0x011)) s) (·.l) == some p.2.2 &&
      after (execWord (wordMop1 (.lncDataMd 0x011)) s) (·.md) == some p.2.2) = true := by decide

/-- S46 and section 4.8. -/
theorem test_loads_coef :
    after (execWord (wordMop2 (.ldCoefMc 0x020)) small) (·.mc) = some 0x6789ABC ∧
    after (execWord (wordMop2 (.ldCoefL 0x3FF)) small) (·.l) = some 0xFFFFFF800000 ∧
    after (execWord (wordMop2 (.ldcCoefMc 0x020)) { small with acpb := true }) (·.mc) =
      some 0x6789ABC ∧
    after (execWord (wordMop2 (.ldcCoefMc 0x020)) small) (·.mc) = some 0 ∧
    after (execWord (wordMop2 (.lncCoefMc 0x020)) small) (·.mc) = some 0x6789ABC := by decide

/-- S47, S50 and section 4.9: the old register value is stored, the low 28 bits to COEF. -/
theorem test_stores :
    after (execWord ⟨.nopAlu1, .addBrZeroNoneB, .nopMop1, .nopMop2, .stBData 0x040⟩
      { small with b := 1, br := 2 }) (fun t => (Memory.read t.data 0x040, t.b)) =
      some (some 1, 2) ∧
    after (execWord (wordMop3 (.stLData 0x010)) { small with l := 3 })
      (fun t => Memory.read t.data 0x010) = some (some 3) ∧
    after (execWord (wordMop3 (.stMdData 0)) { small with md := 4 })
      (fun t => Memory.read t.data 0) = some (some 4) ∧
    after (execWord (wordMop3 (.stLCoef 0x040)) { small with l := 0x000006789123 })
      (fun t => Memory.read t.coef 0x040) = some (some 0x6789123) ∧
    after (execWord (wordMop3 (.stBCoef 0x040)) { small with b := 0x000010000001 })
      (fun t => Memory.read t.coef 0x040) = some (some 1) ∧
    after (execWord (wordMop3 (.stMdCoef 0x040)) { small with md := 0xFFFFFFC00000 })
      (fun t => Memory.read t.coef 0x040) = some (some 0xFC00000) := by decide

/-- Section 4.9: DI by the low three address bits, VOL by the low five, DREG0, DLYO. -/
theorem test_special_stores :
    after (execWord (wordMop3 (.stDiData 0x00D)) { small with di := #v[0, 1, 2, 3, 4, 5, 6, 7] })
      (fun t => Memory.read t.data 0x00D) = some (some 5) ∧
    after (execWord (wordMop3 (.stVolData 0x025))
      { small with vol := (Vector.replicate 24 0).set 5 77 })
      (fun t => Memory.read t.data 0x025) = some (some 77) ∧
    after (execWord (wordMop3 (.stBData 0x2BE)) { small with b := 0xAA })
      (fun t => (t.dreg0, Memory.read t.data 0x2BE)) = some (0xAA, none) ∧
    after (execWord (wordMop3 (.stDlyoData 0x021)) { small with dlyo := 9, dlyAge := some 13 })
      (fun t => Memory.read t.data 0x021) = some (some 9) := by decide

/-- P4: what a DLYI write hands to the delay memory. -/
theorem test_delay_write :
    after (execWord ⟨.nopAlu1, .addAccLrNoneDlyi, .nopMop1, .nopMop2, .dlyptr 5⟩
      { small with lr := 0x000012345600 }) (fun t => (t.dlyi, t.dlyPtr, t.delayLog, t.dlyAge)) =
      some (0x000012345600, 5, [(5, 0x000012345600)], some 1) := by decide

/-! ### PC operations and stops (parts 2 and 7) -/

/-- S5, S6, S10: the pipe of each branch, taken and not. -/
theorem test_branches :
    after (execWord (wordBranch (.jmp 0x155) 0x155) small) (·.pipe) =
      some (some ⟨3, some 0x155, false⟩) ∧
    after (execWord (wordBranch (.boc 10) 10) { small with acpb := true }) (·.pipe) =
      some (some ⟨3, some 10, false⟩) ∧
    after (execWord (wordBranch (.bnc 10) 10) { small with acpb := true }) (·.pipe) =
      some (some ⟨3, none, false⟩) := by decide

/-- S18: STOP with and without PCADDR, and the last word of its pipe. -/
theorem test_stop :
    after (execWord (wordAlu1 .stop) small) (·.pipe) = some (some ⟨3, none, true⟩) ∧
    after (execWord (wordBranch .stop 16) small) (·.pipe) = some (some ⟨3, none, true⟩) ∧
    after (execWord .nops { small with pipe := some ⟨1, none, true⟩ }) (fun t => (t.run, t.pc)) =
      some (.stopped, 17) := by decide

/-- F6c, F7, F8, F8c, F10 to F10d, F11b, F12, F13. -/
theorem test_faults :
    faultOf (execWord (wordBranch (.jmp 18) 18) small) = some (.pcOpMalformed ⟨16, 0⟩) ∧
    faultOf (execWord (wordMop1 (.ldDataB 0x010)) { small with pipe := some ⟨2, some 6, false⟩ }) =
      some (.pipeNotClear ⟨16, 0⟩) ∧
    faultOf (execWord (wordMop1 (.ldDataMd 0x010))
      { small with lastStore := some (.data, 0x010) }) =
      some (.loadAfterStore .data 0x010 ⟨16, 0⟩) ∧
    faultOf (execWord ⟨.nopAlu1, .nopAlu2, .ldDataMd 0x010, .nopMop2, .stBData 0x010⟩ small) =
      some (.loadAfterStore .data 0x010 ⟨16, 0⟩) ∧
    faultOf (execWord ⟨.nopAlu1, .addBrZeroNoneB, .ldDataB 0x010, .nopMop2, .nopMop3⟩ small) =
      some (.writeConflict .b ⟨16, 0⟩) ∧
    faultOf (execWord ⟨.clraccAlu1, .addBrMrNoneAcc, .nopMop1, .nopMop2, .nopMop3⟩ small) =
      some (.writeConflict .acc ⟨16, 0⟩) ∧
    faultOf (execWord ⟨.nopAlu1, .nopAlu2, .ldDataBl 0x010, .ldCoefL 0x020, .nopMop3⟩ small) =
      some (.writeConflict .l ⟨16, 0⟩) ∧
    faultOf (execWord ⟨.nopAlu1, .addAccMrNoneMdb, .ldDataMd 0x010, .nopMop2, .nopMop3⟩ small) =
      some (.writeConflict .md ⟨16, 0⟩) ∧
    faultOf (execWord (wordMop1 (.ldDataB 0x012)) small) =
      some (.unwrittenRead (.data 0x012) ⟨16, 0⟩) ∧
    faultOf (execWord (wordMop1 (.ldDataB 0x2BE)) small) =
      some (.addressOutOfRange .data 0x2BE ⟨16, 0⟩) ∧
    faultOf (execWord (wordMop3 (.stDlyoData 0x040)) small) =
      some (.delayTooEarly none ⟨16, 0⟩) := by decide

/-- F15, F16, and a fetch of a word the harness has not supplied. -/
theorem test_step_faults :
    faultOf (step { small with pc := 16384 }) = some (.pcOutOfRange ⟨16384, 0⟩) ∧
    faultOf (step { small with frameClock := 2816 }) = some (.frameOverrun ⟨16, 0⟩) ∧
    faultOf (step { State.reset with run := .running, frameClock := 0 }) =
      some (.unwrittenRead (.instr 0) ⟨0, 0⟩) := by decide

/-- R303, R340: the first step from reset starts the first frame. -/
theorem test_first_frame :
    after (step { State.reset with lastStore := some (.data, 5) })
      (fun t => (t.pc, t.run, t.lastStore, t.frameClock, t.frame)) =
      some (0, .running, none, 0, 1) := by decide

/-- R168: a branch to a target past the end, not taken; R90, R342: a host write of an instruction
word past the end. -/
theorem test_past_the_end :
    faultOf (execWord (wordBranch (.boc 512) 512)
      { small with cfg := { Config.initial with imemWords := 512 } }) =
      some (.pcOutOfRange ⟨16, 0⟩) ∧
    hostWriteInstr 16384 0 State.reset = .refused (.hostProgramNoSuchWord 16384) :=
  ⟨by decide, rfl⟩

/-- R57, R86, R301: a host write of DREG0 and of the LFSR is no fault; of PC START it lands. -/
theorem test_host_write :
    hostWriteData 0x2BE 1 small = .refused (.hostWriteNotDescribed .data 0x2BE) ∧
    hostWriteData 0x301 1 small = .refused (.hostWriteNotDescribed .data 0x301) ∧
    hostWriteData 0x2BD 1 small = .next { small with pcStart := 1 } := ⟨rfl, rfl, rfl⟩

/-- R53, R86: the bytes 12 to 67 in B3 to B9 and 0x3F in BA, then a DATA and a COEF word of them. -/
theorem test_host_bus :
    let e : Esfr := { Esfr.reset with toDsp0 := 0x12, toDsp1 := 0x23, toDsp2 := 0x34,
                                      toDsp3 := 0x45, toDsp4 := 0x56, toDsp5 := 0x67,
                                      toDsp6 := 0x3F }
    let s := { small with esfr := e, run := .stopped }
    after (step { s with hostQueue := [.writeData 5] }) (fun t => Memory.read t.data 5) =
      some (some 0x675645342312) ∧
    after (step { s with hostQueue := [.writeCoef 5] }) (fun t => Memory.read t.coef 5) =
      some (some 0x5342312) := by decide

/-- R108, R280: a DLYPTR without a DLYI write is a NOP: it passes in the pipe and beside STOP, and
its AD3 is written as zeros. -/
theorem test_dlyptr_is_nop :
    after (execWord (wordMop3 (.dlyptr 5)) { small with pipe := some ⟨2, none, true⟩ }) (·.pipe) =
      some (some ⟨1, none, true⟩) ∧
    (⟨.stop, .nopAlu2, .nopMop1, .nopMop2, .dlyptr 5⟩ : InsnWord).wellFormed = true ∧
    encode Config.initial (wordMop3 (.dlyptr 5)) = some 0 ∧
    encode Config.initial ⟨.stop, .nopAlu2, .nopMop1, .nopMop2, .dlyptr 5⟩ =
      some 0x2A000000000000 := by decide

/-- The first instruction after reset, as the host places it: NEG(B) at PC 0. -/
theorem test_first_instruction :
    after (step ({ State.reset with b := 1 }.withFetchWord 54 0x04000000000000))
      (fun t => (t.br, t.pc)) = some (0xFFFFFFFFFFFF, 1) ∧
    decodeTableWord 54 0x04000000000000 = some .negB := by decide

/-! ### For every obligation with hypotheses, a state and operands that meet them

Each theorem is named after its obligation. Where the hypothesis is only that no PC operation is in
the pipe, the theorem also shows that the word completes there. -/

/-- `small` with one instruction word at its PC. -/
def loaded (w : Nat) : State := { small with imem := [(16, BitVec.ofNat 54 w)] }

/-- An all-NOP word at PC 0, at the start of a frame. -/
def nopAtReset : State :=
  { State.reset with imem := [(0, 0)], run := .running, frameClock := 0 }

theorem witness_StepKeepsInv : nopAtReset.Inv ∧ ∃ t, step nopAtReset = .next t := by
  refine ⟨?_, _, rfl⟩
  refine ⟨by decide, by unfold memoryOk; decide, by unfold memoryOk; decide,
    by unfold memoryOk; decide, fun _ _ => rfl, rfl, ?_, fun _ => rfl, by decide, ?_⟩
  · intro q hq; cases hq
  · intro n hn; cases hn

theorem witness_StepRunsDecodedWord : let s := loaded 0x04000000000000
    s.frameClock < s.cfg.cyclesPerFrame ∧ s.run = .running ∧ s.pc < s.cfg.imemWords ∧
    Memory.read s.imem s.pc = some 0x04000000000000 ∧
    decode s.cfg 0x04000000000000 = .ok (wordAlu1 .negB) ∧ s.hostQueue = [] ∧
    wordFault (wordAlu1 .negB) s = none ∧ unwrittenFault (wordAlu1 .negB) s = none :=
  ⟨by decide, rfl, by decide, rfl, rfl, rfl, rfl, rfl⟩

/-- The last clock of the frame is over; both clauses. -/
theorem witness_FrameBoundary :
    (let s := { small with frameClock := 2816, run := .stopped }
     s.cfg.cyclesPerFrame ≤ s.frameClock ∧ s.run = .stopped ∧ s.pipe = none) ∧
    (let s := { small with frameClock := 2816 }
     s.cfg.cyclesPerFrame ≤ s.frameClock ∧ (s.run = .running ∨ s.pipe ≠ none)) := by decide

/-- The last clock of a frame, stopped. -/
theorem witness_StoppedClock : let s := { small with frameClock := 2815, run := .stopped }
    s.frameClock < s.cfg.cyclesPerFrame ∧ s.run = .stopped ∧ s.hostQueue = [] := by decide

/-- A write of DATA 0x3FF and one of COEF 0x3FF, after an all-NOP word, after a word with a store,
and while stopped. -/
theorem witness_HostWrites :
    (∀ p ∈ ([(0, .nops), (0x00000000000800, wordMop3 (.stBData 0)),
        (0x00000000002000, wordMop3 (.stBCoef 0))] : List (Nat × InsnWord)),
      ∀ q ∈ ([.writeData 0x3FF, .writeCoef 0x3FF] : List HostAction),
      let s := { loaded p.1 with hostQueue := [q] }
      s.frameClock < s.cfg.cyclesPerFrame ∧ s.run = .running ∧ s.pc < s.cfg.imemWords ∧
      Memory.read s.imem s.pc = some (BitVec.ofNat 54 p.1) ∧
      decodesTo p.1 p.2 = true ∧ (faultOf (execWord p.2 s)).isNone = true ∧
      ((fieldsOf (BitVec.ofNat 54 p.1)).mop3 = 0#4 ↔ p.1 = 0)) ∧
    DataStorable 0x3FF small ∧ (0x3FF : Addr).toNat < small.cfg.coefWords ∧
    (let s := { small with hostQueue := [.writeData 0], run := .stopped }
     s.frameClock < s.cfg.cyclesPerFrame ∧ s.run = .stopped ∧
     s.hostQueue = [.writeData 0] ∧ DataStorable 0 s) ∧
    (∀ a ∈ ([0x2BE, 0x301, 0x3FF] : List Addr),
      let s := { small with cfg := { Config.initial with dataWords := 0x3FF, coefWords := 0x3FF },
                            hostQueue := [.writeData a, .writeCoef 0x3FF] }
      s.frameClock < s.cfg.cyclesPerFrame ∧
      (a = 0x2BE ∨ a = 0x301 ∨ (a ≠ 0x2BC ∧ a ≠ 0x2BD ∧ s.cfg.dataWords ≤ a.toNat)) ∧
      s.cfg.coefWords ≤ (0x3FF : Addr).toNat) := by
  unfold DataStorable plainAddr; decide

theorem witness_HostRegisters : let s := { small with hostQueue := [.writeEsfr .bc 0xFF] }
    (∃ t, execWord .nops s = .next t) ∧ s.hostQueue = [.writeEsfr .bc 0xFF] ∧
    (.bd : EsfrName) ∉ ([.a6, .a7, .a9, .aa, .ab, .ac] : List EsfrName) :=
  ⟨⟨_, rfl⟩, rfl, by decide⟩

/-- A word with all five fields in use. -/
def fullWord : InsnWord :=
  ⟨.thruL, .addBrLrNoneDlyi, .ldDataL 0x046, .lncCoefMc 0x3FF, .dlyptr 0x155⟩

theorem witness_DecodeOfEncode :
    Config.initial.wf = true ∧ fullWord.canonical Config.initial = true ∧
    (alu2Code Config.initial fullWord.alu2).isSome = true ∧
    (mop3Code Config.initial fullWord.mop3).isSome = true := by decide

/-- THRU(L), ADD(ACC,LR,CLP32,DO7), LD(0x046,L), LD(0x3FF,MC), ST(DI,DATA,7). -/
theorem witness_EncodeOfDecode : let w : InsnWord :=
      ⟨.thruL, .addAccLrClp32Do7, .ldDataL 0x046, .ldCoefMc 0x3FF, .stDiData 7⟩
    Config.initial.wf = true ∧ decode Config.initial 0x238C6231FFD807 = .ok w ∧
    w.wellFormed = true ∧ w.mop1 ≠ .nopMop1 ∧ w.mop2 ≠ .nopMop2 ∧ w.mop3 ≠ .nopMop3 :=
  ⟨by decide, rfl, by decide, by decide, by decide, by decide⟩

/-- The five words of F1 to F5; the highest ALU1 code; and a bad code of each later field beside
SHL2_CODE in ALU1, the open code of ADD(ACC,ZERO,NONE,L) in ALU2 and loads in MOP1 and MOP2. -/
theorem witness_UnassignedCodesAreIllegal :
    let bad1 (f : Fields) := alu1Unassigned f.alu1 = true ∧ f.alu1 ≠ Config.initial.shl2Code
    let bad2 (f : Fields) := alu2Unassigned f.alu2 = true ∧
      some f.alu2 ≠ Config.initial.alu2ClraccCode ∧
      some f.alu2 ≠ Config.initial.addAccZeroNoneLCode ∧
      some f.alu2 ≠ Config.initial.addAccZeroNoneMdCode
    let bad3 (f : Fields) := f.mop1 ∉ [0#5, 1, 2, 3, 5, 6, 7, 8, 9, 0x14, 0x1C, 0x1F]
    let bad4 (f : Fields) := f.mop2 ∈ [3#3, 4, 5]
    let bad5 (f : Fields) := mop3Unassigned f.mop3 = true ∧
      f.mop3 ≠ Config.initial.pcaddrCode ∧ some f.mop3 ≠ Config.initial.stVolCode
    (∀ w ∈ ([0x2E000000000000, 0x3E000000000000, 0x00180000000000, 0x00008000000000,
        0x00000003000000, 0x00000000002800, 0x16180000000000, 0x17448000000000,
        0x17442003000000, 0x17442001002800] : List Nat), let s := loaded w
     s.frameClock < s.cfg.cyclesPerFrame ∧ s.run = .running ∧ s.pc < s.cfg.imemWords ∧
     Memory.read s.imem s.pc = some (BitVec.ofNat 54 w)) ∧
    bad1 (fieldsOf 0x2E000000000000) ∧ bad1 (fieldsOf 0x3E000000000000) ∧
    (∀ w ∈ ([0x00180000000000, 0x16180000000000] : List InsnBits),
      ¬ bad1 (fieldsOf w) ∧ bad2 (fieldsOf w)) ∧
    (∀ w ∈ ([0x00008000000000, 0x17448000000000] : List InsnBits),
      ¬ bad1 (fieldsOf w) ∧ ¬ bad2 (fieldsOf w) ∧ bad3 (fieldsOf w)) ∧
    (∀ w ∈ ([0x00000003000000, 0x17442003000000] : List InsnBits),
      ¬ bad1 (fieldsOf w) ∧ ¬ bad2 (fieldsOf w) ∧ ¬ bad3 (fieldsOf w) ∧ bad4 (fieldsOf w)) ∧
    (∀ w ∈ ([0x00000000002800, 0x17442001002800] : List InsnBits),
      ¬ bad1 (fieldsOf w) ∧ ¬ bad2 (fieldsOf w) ∧ ¬ bad3 (fieldsOf w) ∧ ¬ bad4 (fieldsOf w) ∧
      bad5 (fieldsOf w)) := by
  refine ⟨by decide, ?_⟩
  simp only [List.forall_mem_cons, List.not_mem_nil, false_implies, implies_true, and_true]
  refine ⟨?_, ?_, ⟨?_, ?_⟩, ⟨?_, ?_⟩, ⟨?_, ?_⟩, ?_, ?_⟩ <;> decide

theorem witness_NopCompletes : small.pipe = none ∧
    ∃ t, execWord (wordMop3 (.dlyptr 5)) small = .next t := ⟨rfl, _, rfl⟩

theorem witness_Alu1OnB : small.pipe = none ∧
    ∃ t, execWord (wordAlu1 .shl20) { small with b := 0x800000000000 } = .next t := ⟨rfl, _, rfl⟩

theorem witness_Alu1OnL : small.pipe = none ∧
    ∃ t, execWord (wordAlu1 .absL) { small with l := 0x800000000000 } = .next t := ⟨rfl, _, rfl⟩

/-- The data points, the ends of the range, and an input inside it. -/
theorem witness_Log2Completes : ([0, 0x7FFFFFFFFFFF, 0x200000000000, 0x008000000000, 1] :
    List Data).all (fun l => !{ small with l := l }.l.msb) = true ∧ small.pipe = none := by decide

theorem witness_Alog2Completes : small.pipe = none ∧
    ∃ bits : BitVec 9, (0x00000FF80000 : Data) = bits.setWidth 48 <<< 19 := ⟨rfl, 0x1FF, rfl⟩

theorem witness_ClraccCompletes : small.pipe = none ∧ small.sched.acc = none ∧
    { small with sched := { Sched.empty with acc := some 0 } }.sched.acc = some 0 := by decide

theorem witness_MultiplierEveryClock :
    ∃ t, execWord fullWord { small with acpb := true, data := [(0x046, 3)] } = .next t := ⟨_, rfl⟩

theorem witness_AddToFirstPipe : small.pipe = none ∧
    ∃ t, execWord (wordAlu2 .addAccMrNoneB) { small with acc := 5, mr := 7 } = .next t :=
  ⟨rfl, _, rfl⟩

theorem witness_AddToMc : small.pipe = none ∧
    ∃ t, execWord (wordAlu2 .addBrMrNoneMc) { small with br := 5 } = .next t := ⟨rfl, _, rfl⟩

theorem witness_AddToAcc : small.pipe = none ∧
    ∃ t, execWord (wordAlu2 .addAccMrNoneAcc) { small with mr := 5 } = .next t := ⟨rfl, _, rfl⟩

theorem witness_AddToDlyi : small.pipe = none ∧
    ∃ t, execWord ⟨.nopAlu1, .addBrMrNoneDlyi, .nopMop1, .nopMop2, .dlyptr 0x3FF⟩ small =
      .next t := ⟨rfl, _, rfl⟩

/-- The first and the last output register of a list. -/
theorem witness_AddToOutputs : small.pipe = none ∧
    ([.addBrMrClp32Do1, .addBrMrClp32Do2, .addBrMrClp32Do3, .addBrMrClp32Do4, .addBrMrClp32Do5,
      .addBrMrClp32Do6, .addBrMrClp32Do7, .addBrMrClp32Do8] : List Instr)[(7 : Fin 8).val]? =
      some .addBrMrClp32Do8 ∧
    ∃ t, execWord (wordAlu2 .addBrMrClp32Do8) { small with br := 5 } = .next t := ⟨rfl, rfl, _, rfl⟩

theorem witness_AddToMdb : small.pipe = none ∧
    ∃ t, execWord (wordAlu2 .addAccMrNoneMdb) { small with acc := 5 } = .next t := ⟨rfl, _, rfl⟩

theorem witness_AddClp28 : small.pipe = none ∧
    ∃ t, execWord (wordAlu2 .addAccZeroClp28L) { small with acc := 5 } = .next t := ⟨rfl, _, rfl⟩

theorem witness_BrZeroMoves : small.pipe = none ∧
    ∃ t, execWord (wordAlu2 .addBrZeroClp32B) { small with br := 5 } = .next t := ⟨rfl, _, rfl⟩

/-- Each rule of the six at a boundary: 0 and 0, -1 and -1, -1 and 1, 1 and -1, -2 and 1, 0 and -1. -/
theorem witness_CompFnSixRules :
    ((0 ≤ (0 : Int)) ∧ ((-1 : Int) < 0)) ∧
    ((-1 : Int).natAbs = (1 : Int).natAbs ∧ (1 : Int).natAbs = (-1 : Int).natAbs) ∧
    (decide ((-2 : Int) < 0) ≠ decide ((1 : Int) < 0) ∧ (1 : Int).natAbs < (-2 : Int).natAbs) ∧
    (decide ((0 : Int) < 0) ≠ decide ((-1 : Int) < 0) ∧ (0 : Int).natAbs < (-1 : Int).natAbs) ∧
    ((-2 : Acc).toInt = -2 ∧ (-1 : Acc).toInt = -1 ∧ (1 : Acc).toInt = 1) := by decide

theorem witness_CompCompletes : small.pipe = none ∧
    ∃ t, execWord (wordAlu2 .compAccLr) { small with acc := 5 } = .next t := ⟨rfl, _, rfl⟩

theorem witness_CompFlagTwoClocks :
    let w : InsnWord := ⟨.thruB, .compBrLr, .ldDataB 0x010, .ldCoefMc 0x020, .stMdData 0⟩
    w.slotsOk = true ∧ w.alu2 = .compBrLr ∧
    ∃ t u, execWord w small = .next t ∧
      execWord (wordMop1 (.ldcDataB 0x010)) t = .next u := ⟨rfl, rfl, _, _, rfl, rfl⟩

/-- The top DATA address, with and without the flag. -/
theorem witness_LoadsFromData : DataLoadable 0x3FF 7 small ∧ small.pipe = none := by
  unfold DataLoadable plainAddr; decide

theorem witness_ConditionalLoadsTaken :
    (DataLoadable 0x3FF 7 { small with acpb := true } ∧ { small with acpb := true }.pipe = none) ∧
    DataLoadable 0x010 0x123456789ABC small ∧ small.acpb = false := by
  unfold DataLoadable plainAddr; decide

theorem witness_ConditionalLoadsSkipped : small.pipe = none ∧
    (.ldcDataMd 0x2BE : Instr) ∈ ([.ldcDataB 0x2BE, .ldcDataL 0x2BE, .ldcDataMd 0x2BE,
      .ldcCoefMc 0x2BE] : List Instr) ∧ small.acpb = false ∧
    { small with acpb := true }.pipe = none := by decide

theorem witness_LfsrLoads : small.pipe = none ∧ small.acpb = false ∧
    { small with acpb := true }.acpb = true := by decide

/-- The top COEF address, a negative word, with and without the flag. -/
theorem witness_LoadsFromCoef : CoefLoadable 0x3FF 0xF800000 small ∧
    CoefLoadable 0x3FF 0xF800000 { small with acpb := true } ∧ small.pipe = none := by
  unfold CoefLoadable; decide

/-- The lowest and the highest address; a DLYO store in the first legal clock. -/
theorem witness_StoresToData : let s := { small with dlyAge := some 13 }
    DataStorable 0 s ∧ DataStorable 0x3FF s ∧ s.pipe = none ∧
    (∃ n, s.dlyAge = some n ∧ 13 ≤ n) ∧
    ∃ t, execWord (wordMop3 (.stDlyoData 0x3FF)) s = .next t := by
  refine ⟨?_, ?_, rfl, ⟨13, rfl, by decide⟩, _, rfl⟩ <;> (unfold DataStorable plainAddr; decide)

theorem witness_StoresToDreg0 : let s := { small with dlyAge := some 13 }
    (∃ n, s.dlyAge = some n ∧ 13 ≤ n) ∧ s.pipe = none := ⟨⟨13, rfl, by decide⟩, rfl⟩

/-- The top COEF address, and the first address past the end of a smaller memory is no such one. -/
theorem witness_StoresToCoef : (0x3FF : Addr).toNat < small.cfg.coefWords ∧ small.pipe = none := by
  decide

/-- A store of DATA 0x010 and one of COEF 0x020 beside other operations, alone and with the load in
the same word; the next word with the load; and a next word that stores elsewhere. -/
theorem witness_StoreThenLoad :
    (let w : InsnWord := ⟨.thruB, .compBrLr, .ldDataB 0x010, .nopMop2, .stLData 0x010⟩
     let v : InsnWord := ⟨.thruB, .compBrLr, .ldDataB 0x011, .nopMop2, .stLData 0x010⟩
     let x : InsnWord := ⟨.negL, .nopAlu2, .lncDataMd 0x010, .nopMop2, .stBData 0x011⟩
     let y := wordMop3 (.stBData 0x011)
     DataStorable 0x010 small ∧ storeTarget w.mop3 = some (.data, 0x010) ∧
     (w.slotsOk && v.slotsOk && x.slotsOk && y.slotsOk) = true ∧
     wordFault w small = none ∧ unwrittenFault w small = none ∧
     ∃ t u, execWord v small = .next t ∧ t.acpb = false ∧ wordFault x t = none ∧
       unwrittenFault x t = none ∧ execWord y t = .next u ∧ u.pipe = none ∧
       storeTarget y.mop3 ≠ some (.data, 0x010)) ∧
    (let w : InsnWord := ⟨.nopAlu1, .nopAlu2, .ldDataB 0x010, .ldCoefMc 0x020, .stLCoef 0x020⟩
     let v : InsnWord := ⟨.nopAlu1, .nopAlu2, .ldDataB 0x010, .ldCoefMc 0x3FF, .stLCoef 0x020⟩
     (0x020 : Addr).toNat < small.cfg.coefWords ∧ storeTarget w.mop3 = some (.coef, 0x020) ∧
     (w.slotsOk && v.slotsOk) = true ∧ wordFault w small = none ∧
     unwrittenFault w small = none ∧ (∃ x, exec w.mop1 (issue w small) = .next x) ∧
     ∃ t u, execWord v small = .next t ∧ wordFault w t = none ∧ unwrittenFault w t = none ∧
       (∃ x, exec w.mop1 (issue w t) = .next x) ∧ execWord .nops t = .next u ∧ u.pipe = none) :=
  ⟨⟨by unfold DataStorable plainAddr; decide, rfl, rfl, rfl, rfl, _, _, rfl, rfl, rfl, rfl, rfl,
    rfl, by decide⟩, by decide, rfl, rfl, rfl, rfl, ⟨_, rfl⟩, _, _, rfl, rfl, rfl, ⟨_, rfl⟩, rfl,
    rfl⟩

/-- The targets just below and just above the branch's own four words 16 to 19, and the last word of
a memory of 512. -/
theorem witness_BranchesComplete :
    ((15 : Addr).toNat < small.pc ∨ small.pc + 3 < (15 : Addr).toNat) ∧
    ((20 : Addr).toNat < small.pc ∨ small.pc + 3 < (20 : Addr).toNat) ∧
    (20 : Addr).toNat < small.cfg.imemWords ∧
    (let s := { small with cfg := { Config.initial with imemWords := 512 } }
     (511 : Addr).toNat < s.cfg.imemWords ∧ s.pc + 3 < (511 : Addr).toNat) ∧
    small.pipe = none := by decide

theorem witness_StopCompletes : small.pipe = none ∧
    ∃ t, execWord (wordBranch .stop 17) small = .next t := ⟨rfl, _, rfl⟩

theorem witness_BranchTakesFourClocks : small.pipe = none ∧
    (20 : Addr).toNat < small.cfg.imemWords ∧
    ((20 : Addr).toNat < small.pc ∨ small.pc + 3 < (20 : Addr).toNat) := by decide

theorem witness_StopTakesFourClocks : small.pipe = none := rfl

/-- The last word of a taken branch, and a word that may not stand there. -/
theorem witness_PipePasses :
    { small with pipe := some ⟨1, some 20, false⟩ }.pipe = some ⟨1, some 20, false⟩ ∧
    wordMop3 (.stBData 0) ≠ .nops ∧ ∀ ptr, wordMop3 (.stBData 0) ≠ wordMop3 (.dlyptr ptr) :=
  ⟨rfl, by decide, fun _ h => by simp [wordMop3] at h⟩

/-- One malformed word for each clause; the targets at both ends of the four words. -/
theorem witness_PcOpMalformed : small.pipe = none ∧
    (let w : InsnWord := ⟨.jmp 20, .nopAlu2, .ldDataB 0x010, .nopMop2, .pcaddr 20⟩
     w.alu1 ∈ ([.jmp 20, .boc 20, .bnc 20, .stop] : List Instr) ∧ w.mop1 ≠ .nopMop1) ∧
    (∀ b, (wordAlu1 (.boc 20)).mop3 ≠ .pcaddr b) ∧
    (let w : InsnWord := ⟨.stop, .nopAlu2, .nopMop1, .nopMop2, .stBData 0⟩
     w.alu1 = .stop ∧ w.mop3 ≠ .nopMop3 ∧ (∀ b, w.mop3 ≠ .pcaddr b) ∧
     ∀ b, w.mop3 ≠ .dlyptr b) ∧
    ((wordMop3 (.pcaddr 5)).mop3 = .pcaddr 5 ∧
     ∀ b, (wordMop3 (.pcaddr 5)).alu1 ∉ ([.jmp b, .boc b, .bnc b, .stop] : List Instr)) ∧
    (small.pc ≤ (16 : Addr).toNat ∧ (16 : Addr).toNat ≤ small.pc + 3) ∧
    (small.pc ≤ (19 : Addr).toNat ∧ (19 : Addr).toNat ≤ small.pc + 3) := by
  simp [wordAlu1, wordMop3, small, State.reset]

theorem witness_BusConflict : let w : InsnWord :=
      ⟨.nopAlu1, .nopAlu2, .ldDataMc 0x010, .ldCoefL 0x020, .nopMop3⟩
    small.pipe = none ∧ isPcOp w.alu1 = false ∧ isPcaddr w.mop3 = false ∧
    (∃ a, w.mop1 = .ldDataMc a) ∧ (∃ c, w.mop2 = .ldCoefL c) ∧
    execWord w small = .fault (.busConflict ⟨16, 0⟩) := ⟨rfl, rfl, rfl, ⟨_, rfl⟩, ⟨_, rfl⟩, rfl⟩

theorem witness_DelayPointerMissing : let w : InsnWord :=
      ⟨.nopAlu1, .addBrLrNoneDlyi, .nopMop1, .nopMop2, .stBData 0x040⟩
    small.pipe = none ∧ pcFormBad w = false ∧ busConflict w = false ∧
    w.alu2 ∈ ([.addBrMrNoneDlyi, .addBrLrNoneDlyi, .addAccMrNoneDlyi, .addAccLrNoneDlyi] :
      List Instr) ∧ (∀ p, w.mop3 ≠ .dlyptr p) := by
  refine ⟨rfl, rfl, rfl, by decide, ?_⟩; intro p; simp

/-- A word of five operations that completes, one with a conflict, and the loads of the pairs. -/
theorem witness_WriteConflict :
    (let s := { small with acpb := true, data := [(0x046, 3)] }
     fullWord.slotsOk = true ∧ wordFault fullWord s = none ∧ unwrittenFault fullWord s = none ∧
     (∀ n : Fin 5, ∃ u, exec (fieldOp fullWord n) (issue fullWord s) = .next u) ∧
     ∀ r, ¬ WrittenTwice r fullWord s) ∧
    (let w : InsnWord := ⟨.nopAlu1, .addBrMrNoneMc, .nopMop1, .ldCoefMc 0x020, .nopMop3⟩
     w.slotsOk = true ∧ wordFault w small = none ∧ unwrittenFault w small = none ∧
     (∀ n : Fin 5, ∃ u, exec (fieldOp w n) (issue w small) = .next u) ∧
     WrittenTwice .mc w small) ∧
    small.pipe = none ∧
    DataLoadable 0x010 0x123456789ABC small ∧ CoefLoadable 0x020 0x6789ABC small := by
  refine ⟨⟨rfl, rfl, rfl, ?_, ?_⟩, ⟨rfl, rfl, rfl, ?_, ⟨1, 3, by decide, ⟨_, rfl, rfl⟩,
    ⟨_, rfl, rfl⟩⟩, by decide⟩, rfl, ?_, ?_⟩
  · intro n; fin_cases n <;> exact ⟨_, rfl⟩
  · rintro r ⟨⟨m, n, hmn, ⟨u, hu, h1⟩, ⟨v, hv, h2⟩⟩, -⟩
    fin_cases m <;> fin_cases n <;> first
      | (exact absurd hmn (by decide))
      | (cases hu; cases hv
         cases r <;> first
           | exact absurd h1 Bool.false_ne_true
           | exact absurd h2 Bool.false_ne_true)
  · intro n; fin_cases n <;> exact ⟨_, rfl⟩
  · unfold DataLoadable plainAddr; decide
  · unfold CoefLoadable; decide

/-- The first address past the end, a stored word and an unwritten one, in each memory. -/
theorem witness_LoadsThatStop :
    (let s := { small with cfg := { Config.initial with dataWords := 512, coefWords := 512 } }
     ((512 : Addr) ≠ 0x301 ∧ s.cfg.dataWords ≤ (512 : Addr).toNat) ∧
     s.cfg.coefWords ≤ (512 : Addr).toNat) ∧
    (let s := { small with lastStore := some (.data, 0x010) }
     DataStorable 0x010 s ∧ s.lastStore = some (.data, 0x010)) ∧
    (let s := { small with sched := { Sched.empty with storeTo := some (.coef, 0x3FF) } }
     (0x3FF : Addr).toNat < s.cfg.coefWords ∧ s.sched.storeTo = some (.coef, 0x3FF)) ∧
    (DataStorable 0 small ∧ small.lastStore ≠ some (.data, 0) ∧
     small.sched.storeTo ≠ some (.data, 0) ∧ Memory.read small.data (0 : Addr).toNat = none) ∧
    (small.lastStore ≠ some (.coef, 0) ∧ small.sched.storeTo ≠ some (.coef, 0) ∧
     Memory.read small.coef (0 : Addr).toNat = none) ∧
    (.lncDataMd 0 ∈ (dataLoads small.acpb 0).map Prod.fst) ∧
    (.lncCoefMc 0 ∈ (coefLoads small.acpb 0).map Prod.fst) := by
  unfold DataStorable plainAddr; decide

/-- The first address past the end, with DLYO ready in its first clock and not ready in the clock
before. -/
theorem witness_StoresThatStop :
    (let s := { small with
        cfg := { Config.initial with dataWords := 512, coefWords := 512 }, dlyAge := some 13 }
     ((512 : Addr) ≠ 0x2BE ∧ s.cfg.dataWords ≤ (512 : Addr).toNat) ∧
     s.cfg.coefWords ≤ (512 : Addr).toNat ∧ (∃ n, s.dlyAge = some n ∧ 13 ≤ n)) ∧
    (∃ n, { small with dlyAge := some 12 }.dlyAge = some n ∧ n < 13) ∧
    small.dlyAge = none :=
  ⟨⟨by decide, by decide, 13, rfl, by decide⟩, ⟨12, rfl, by decide⟩, rfl⟩

/-- The first address past the end, as PC and as a target. -/
theorem witness_PcOutOfRange :
    (let s := { small with pc := 16384 }
     s.frameClock < s.cfg.cyclesPerFrame ∧ s.run = .running ∧ s.cfg.imemWords ≤ s.pc) ∧
    (let s := { small with cfg := { Config.initial with imemWords := 512 } }
     s.cfg.imemWords ≤ (512 : Addr).toNat ∧ s.pc + 3 < (512 : Addr).toNat ∧ s.pipe = none) := by
  decide

/-- A word of several fields that writes none of the registers. -/
theorem witness_RegisterWriters :
    let w : InsnWord := ⟨.nopAlu1, .nopAlu2, .ldcDataB 0x010, .ldcCoefMc 0x020, .stBData 0x011⟩
    w.slotsOk = true ∧ (∃ t, execWord w small = .next t) ∧
    w.alu1 = .nopAlu1 ∧ w.alu2 = .nopAlu2 ∧ small.acpb = false ∧
    (∀ a, w.mop1 ∉ ([.ldDataB a, .ldDataBl a, if small.acpb then .ldcDataB a else .lncDataB a] :
      List Instr)) ∧
    (∀ a, w.mop1 ∉ ([.ldDataL a, .ldDataBl a, if small.acpb then .ldcDataL a else .lncDataL a] :
      List Instr)) ∧ (∀ a, w.mop2 ≠ .ldCoefL a) ∧
    (∀ a, w.mop1 ∉ ([.ldDataMd a, if small.acpb then .ldcDataMd a else .lncDataMd a] :
      List Instr)) ∧ (∀ a, w.mop1 ≠ .ldDataMc a) ∧
    (∀ a, w.mop2 ∉ ([.ldCoefMc a, if small.acpb then .ldcCoefMc a else .lncCoefMc a] :
      List Instr)) ∧ (∀ k, Instr.nopAlu2 ∉ outputForms k) := by
  refine ⟨rfl, ⟨_, rfl⟩, rfl, rfl, rfl, ?_, ?_, ?_, ?_, ?_, ?_, by decide⟩ <;>
    (intro a; simp [show small.acpb = false from rfl])

theorem witness_OnlyStoresWriteMemory : let w := wordMop3 (.stBData 0x3FF)
    w.slotsOk = true ∧ (∃ t, execWord w small = .next t) ∧
    (∀ a, storeTarget w.mop3 = some (.data, a) → (0x3FE : Nat) ≠ a.toNat) ∧
    (∀ a, storeTarget w.mop3 = some (.coef, a) → (0x3FF : Nat) ≠ a.toNat) ∧
    storeTarget w.mop3 ≠ some (.data, 0x2BE) := by
  refine ⟨by decide, ⟨_, rfl⟩, ?_, ?_, by decide⟩
  · intro a h; cases h; decide
  · intro a h; cases h

theorem witness_StepKeepsProgram :
    (∃ t, step (loaded 0) = .next t) ∧
    (let s := { small with run := .stopped }
     (∃ t, step s = .next t) ∧ s.run = .stopped ∧ s.hostQueue = []) :=
  ⟨⟨_, rfl⟩, ⟨_, rfl⟩, rfl, rfl⟩

/-- The word that drains a STOP's pipe, and a word with a clear pipe. -/
theorem witness_PcAndRun :
    (let s := { small with pipe := some ⟨1, none, true⟩ }
     ∃ t, execWord .nops s = .next t ∧ s.run = .running ∧ t.run = .stopped) ∧
    (small.pipe = none ∧ isPcOp (wordMop1 (.ldDataB 0x010)).alu1 = false ∧
     (wordMop1 (.ldDataB 0x010)).slotsOk = true ∧
     ∃ t, execWord (wordMop1 (.ldDataB 0x010)) small = .next t) ∧
    (∃ f, step { small with pc := 16384 } = .fault f) :=
  ⟨⟨_, rfl, rfl, rfl⟩, ⟨rfl, rfl, rfl, _, rfl⟩, _, rfl⟩

/-- A DLYI write, and a word without one. -/
theorem witness_DelayTimer :
    (let w : InsnWord := ⟨.nopAlu1, .addAccLrNoneDlyi, .nopMop1, .nopMop2, .dlyptr 0x3FF⟩
     w.slotsOk = true ∧ ∃ t, execWord w small = .next t) ∧
    (InsnWord.nops.slotsOk = true ∧ ∃ t, execWord .nops small = .next t) :=
  ⟨⟨rfl, _, rfl⟩, rfl, _, rfl⟩

end Sys2Proof.Tests
end

/-! Proofs of the statements of 00_scope.md. The step of a running machine as the fetched word and
the host's turn (O4), and the invariant of the machine (O3): what an operation schedules may land,
and the end of a clock, an idle clock, the host's turn and the frame restart keep the invariant. -/

namespace Sys2Proof.Machine

/-! ### A word, and the host's turn after it -/

theorem andThen_assoc (r : Result) (f g : State → Result) :
    andThen (andThen r f) g = andThen r fun s => andThen (f s) g := by
  cases r <;> rfl

theorem hostTurn_of_empty {free : Bool} {s : State} (h : s.hostQueue = []) :
    hostTurn free s = .next s := by
  simp [hostTurn, h]

/-- A word takes nothing from the host's queue. -/
theorem execWord_hostQueue {w : InsnWord} {s t : State} (h : execWord w s = .next t) :
    t.hostQueue = s.hostQueue := by
  obtain ⟨-, -, k, -, -, rfl⟩ := execWord_next h
  rfl

/-- With no action waiting, the host's turn after a word changes nothing. -/
theorem execWord_hostTurn_of_empty (w : InsnWord) {s : State} (free : Bool)
    (h : s.hostQueue = []) : andThen (execWord w s) (hostTurn free) = execWord w s := by
  cases e : execWord w s with
  | next t => exact hostTurn_of_empty ((execWord_hostQueue e).trans h)
  | fault f => rfl
  | refused q => rfl

/-- Settles O4: the step of a running machine is the fetched word and the host's turn, which is
idle when nothing waits. -/
theorem stepRunsDecodedWord : Obligations.StepRunsDecodedWord := by
  intro s bits w hb hr hp hm hd
  have hstep := step_running hb hr (fetchDecode_of hp hm hd)
  refine ⟨hstep, fun hq => hstep.trans (execWord_hostTurn_of_empty w _ hq), fun h1 h2 => ?_⟩
  rw [execWord_of_checks h1 h2, execFields]
  simp only [andThen_assoc]

/-! ### The invariant: what a word schedules -/

/-- What is scheduled may land: a store to a word the machine has, a legal pipe. -/
def State.SchedOk (s : State) : Prop := StoreOk s s.sched.store ∧ pipeOk s.sched.pipe

theorem storeOk_schedOnly {s t : State} (h : SchedOnly s t) {q : Option StoreReq}
    (hq : StoreOk s q) : StoreOk t q := by
  obtain ⟨k, rfl⟩ := h
  exact hq

theorem pipeOk_none : pipeOk none := nofun

/-- A branch not yet under way: three words to pass, and a STOP has no target (R162). -/
theorem pipeOk_new {target : Option Addr} {stop : Bool} (h : stop = true → target = none) :
    pipeOk (some ⟨pipeClear, target, stop⟩) := by
  rintro q ⟨⟩
  exact ⟨Nat.succ_pos 2, Nat.le_refl 3, h⟩

theorem alu1_pipeOk {i : Instr} {s t : State} (hi : i.slot = .alu1) (h : exec i s = .next t)
    (hs : pipeOk s.sched.pipe) : pipeOk t.sched.pipe := by
  cases i <;> first
    | (cases hi; done)
    | (injection h with h; subst h; exact hs)
    | (injection h with h; subst h; exact pipeOk_new fun _ => rfl)
    | (obtain ⟨-, -, rfl⟩ := branchIf_next h; exact pipeOk_new nofun)

/-- Every operation schedules only what may land. -/
theorem exec_schedOk {i : Instr} {s t : State} (h : exec i s = .next t) (hs : s.SchedOk) :
    t.SchedOk := by
  obtain ⟨hstore, hpipe⟩ := hs
  have ho := exec_schedOnly h
  cases hi : i.slot with
  | alu1 =>
    refine ⟨storeOk_schedOnly ho ?_, alu1_pipeOk hi h hpipe⟩
    rw [alu1_sched hi h]
    exact hstore
  | alu2 =>
    rw [State.SchedOk, alu2_sched hi h]
    exact ⟨storeOk_schedOnly ho hstore, hpipe⟩
  | mop1 =>
    rw [State.SchedOk, mop1_sched hi h]
    exact ⟨storeOk_schedOnly ho hstore, hpipe⟩
  | mop2 =>
    rw [State.SchedOk, mop2_sched hi h]
    exact ⟨storeOk_schedOnly ho hstore, hpipe⟩
  | mop3 =>
    obtain ⟨hsched, hst, -⟩ := mop3_sched hi h
    refine ⟨storeOk_schedOnly ho ?_, by rw [hsched]; exact hpipe⟩
    obtain hst | hst := hst
    · rw [hst]; exact hstore
    · exact hst

theorem issue_schedOk (w : InsnWord) (s : State) : (issue w s).SchedOk := ⟨trivial, pipeOk_none⟩

theorem execFields_schedOk {w : InsnWord} {s t : State} (h : execFields w s = .next t)
    (hs : s.SchedOk) : t.SchedOk := by
  obtain ⟨s1, s2, s3, s4, h1, h2, h3, h4, h5⟩ := execFields_next h
  exact exec_schedOk h5 <| exec_schedOk h4 <| exec_schedOk h3 <| exec_schedOk h2 <|
    exec_schedOk h1 hs

/-! ### The invariant: what the end of a clock, the host and the frame sequencer keep -/

/-- DATA RAM as the invariant has it: canonical, inside its size, no word at a special location. -/
def DataRamOk (n : Nat) (m : List (Nat × Data)) : Prop :=
  memoryOk n m ∧ ∀ a : Addr, ¬ plainAddr a → Memory.read m a.toNat = none

theorem dataRamOk_write {n : Nat} {m : List (Nat × Data)} {a : Addr} {v : Data}
    (hp : plainAddr a) (ha : a.toNat < n) (h : DataRamOk n m) :
    DataRamOk n (Memory.write m a.toNat v) := by
  refine ⟨memoryOk_write ha h.1, fun x hx => ?_⟩
  have hne : x.toNat ≠ a.toNat := fun e => hx (BitVec.eq_of_toNat_eq e ▸ hp)
  rw [Memory.read_write_other _ _ _ _ hne]
  exact h.2 x hx

theorem nextData_ok {s : State} (hs : StoreOk s s.sched.store)
    (h : DataRamOk s.cfg.dataWords s.data) : DataRamOk s.cfg.dataWords (nextData s) := by
  unfold nextData
  split
  · rename_i a v e
    rw [e] at hs
    exact dataRamOk_write hs.1 hs.2 h
  · exact h

theorem nextCoef_ok {s : State} (hs : StoreOk s s.sched.store)
    (h : memoryOk s.cfg.coefWords s.coef) : memoryOk s.cfg.coefWords (nextCoef s) := by
  unfold nextCoef
  split
  · rename_i a v e
    rw [e] at hs
    exact memoryOk_write hs h
  · exact h

/-- The pipe of the next clock is legal: a new one, the old one with one word less, or none. -/
theorem nextPipe_ok {s : State} (hs : pipeOk s.sched.pipe) (h : pipeOk s.pipe) :
    pipeOk (nextPipe s) := by
  unfold nextPipe
  split
  · exact hs
  · rename_i p e
    obtain ⟨hlo, hhi, hstop⟩ := h p e
    split
    · exact pipeOk_none
    · rintro q ⟨⟩
      exact ⟨by dsimp only; omega, by dsimp only; omega, hstop⟩

/-- A running machine stops only in the clock in which a pipe drains. -/
theorem nextPipe_of_nextRun_stopped {s : State} (hr : s.run = .running)
    (h : nextRun s = .stopped) : nextPipe s = none := by
  cases hp : s.pipe with
  | none => simp [nextRun, hp, hr] at h
  | some p =>
    by_cases hd : p.remaining ≤ 1
    · simp [nextPipe, hp, hd]
    · simp [nextRun, hp, hr, hd] at h

theorem ageOk_succ {age : Option Nat} {c : Nat} (h : ∀ n, age = some n → 1 ≤ n ∧ n ≤ c) :
    ∀ n, age.map (· + 1) = some n → 1 ≤ n ∧ n ≤ c + 1 := by
  intro n hn
  obtain ⟨m, hm, rfl⟩ := Option.map_eq_some_iff.mp hn
  have := h m hm
  omega

theorem nextDlyAge_ok {s : State} (h : delayAgeOk s) :
    ∀ n, nextDlyAge s = some n → 1 ≤ n ∧ n ≤ s.frameClock + 1 := by
  unfold nextDlyAge
  split
  · rintro n ⟨⟩; omega
  · exact ageOk_succ h

/-- The end of a word's clock inside a frame keeps the invariant. -/
theorem settle_inv {s : State} {k : Sched} (h : s.Inv) (hb : s.frameClock < s.cfg.cyclesPerFrame)
    (hr : s.run = .running) (hk : State.SchedOk { s with sched := k }) :
    (settle { s with sched := k }).Inv := by
  obtain ⟨hcfg, hdata, hcoef, himem, hspecial, -, hpipe, -, -, hage⟩ := h
  obtain ⟨hdata', hspecial'⟩ :=
    nextData_ok (s := { s with sched := k }) hk.1 ⟨hdata, hspecial⟩
  exact ⟨hcfg, hdata', nextCoef_ok (s := { s with sched := k }) hk.1 hcoef, himem, hspecial', rfl,
    nextPipe_ok (s := { s with sched := k }) hk.2 hpipe, nextPipe_of_nextRun_stopped hr, hb,
    nextDlyAge_ok (s := { s with sched := k }) hage⟩

theorem execWord_inv {w : InsnWord} {s t : State} (h : s.Inv)
    (hb : s.frameClock < s.cfg.cyclesPerFrame) (hr : s.run = .running)
    (ht : execWord w s = .next t) : t.Inv := by
  obtain ⟨-, -, k, hk, -, rfl⟩ := execWord_next ht
  exact settle_inv h hb hr (execFields_schedOk hk (issue_schedOk w s))

theorem idleClock_inv {s : State} (h : s.Inv) (hb : s.frameClock < s.cfg.cyclesPerFrame) :
    (idleClock s).Inv := by
  obtain ⟨hcfg, hdata, hcoef, himem, hspecial, -, hpipe, hstop, -, hage⟩ := h
  exact ⟨hcfg, hdata, hcoef, himem, hspecial, rfl, hpipe, hstop, hb, ageOk_succ hage⟩

theorem frameRestart_inv {s : State} (h : s.Inv) : (frameRestart s).Inv := by
  obtain ⟨hcfg, hdata, hcoef, himem, hspecial, -, -, -, -, -⟩ := h
  exact ⟨hcfg, hdata, hcoef, himem, hspecial, rfl, pipeOk_none, fun _ => rfl, Nat.zero_le _, nofun⟩

/-- The host's turn keeps the invariant: of what it holds, only a memory word can change. -/
theorem hostTurn_inv {free : Bool} {s t : State} (h : s.Inv) (ht : hostTurn free s = .next t) :
    t.Inv := by
  obtain rfl | ⟨rest, hc⟩ := hostTurn_next ht
  · exact h
  obtain ⟨hcfg, hdata, hcoef, himem, hspecial, hrest⟩ := h
  obtain ⟨e, rfl⟩ | rfl | rfl | ⟨a, ⟨hp, ha⟩, rfl⟩ | ⟨a, ha, rfl⟩ := hc
  · exact ⟨hcfg, hdata, hcoef, himem, hspecial, hrest⟩
  · exact ⟨hcfg, hdata, hcoef, himem, hspecial, hrest⟩
  · exact ⟨hcfg, hdata, hcoef, himem, hspecial, hrest⟩
  · obtain ⟨hdata', hspecial'⟩ := dataRamOk_write (v := busData s.esfr) hp ha ⟨hdata, hspecial⟩
    exact ⟨hcfg, hdata', hcoef, himem, hspecial', hrest⟩
  · exact ⟨hcfg, hdata, memoryOk_write ha hcoef, himem, hspecial, hrest⟩

/-- Settles O3: the frame restart, an idle clock and a word keep the invariant, and so does the
host's turn after the last two. -/
theorem stepKeepsInv : Obligations.StepKeepsInv := by
  intro s t h hstep
  obtain ⟨-, -, -, rfl⟩ | ⟨hb, -, hturn⟩ | ⟨hb, hr, w, u, -, hw, hturn⟩ := step_next hstep
  · exact frameRestart_inv h
  · exact hostTurn_inv (idleClock_inv h hb) hturn
  · exact hostTurn_inv (execWord_inv h hb hr hw) hturn

end Sys2Proof.Machine

/-! Proofs of the statements of 00_scope.md, continued: what a word of several operations writes
(O52). Each field schedules a list of writes on the state before the word; two fields write one
register exactly when a write of a later one clashes with what the earlier ones have scheduled. -/

namespace Sys2Proof.Machine

/-! ### What is scheduled, kind by kind -/

/-- The parts of a schedule that a write can set; the eight DO registers share one. -/
inductive Kind where
  | b | l | md | mc | br | lr | acc | dlyi | out | pend | pipe | store | dlyPtr

/-- The part of the schedule that a write sets. -/
def Write.kind : Write → Kind
  | .b _ => .b
  | .l _ => .l
  | .md _ => .md
  | .mc _ => .mc
  | .br _ => .br
  | .lr _ => .lr
  | .acc _ | .accAgain => .acc
  | .dlyi _ => .dlyi
  | .out _ _ => .out
  | .pend _ => .pend
  | .pipe _ => .pipe
  | .store _ => .store
  | .dlyPtr _ => .dlyPtr

/-- A write as the schedule holds it: the ALU2 CLRACC leaves a zero for ACC like the ALU1 one. -/
def Write.value : Write → Write
  | .accAgain => .acc 0
  | x => x

/-- What a schedule holds of a kind. -/
def Sched.entry (c : Sched) : Kind → Option Write
  | .b => c.b.map .b
  | .l => c.l.map .l
  | .md => c.md.map .md
  | .mc => c.mc.map .mc
  | .br => c.br.map .br
  | .lr => c.lr.map .lr
  | .acc => c.acc.map .acc
  | .dlyi => c.dlyi.map .dlyi
  | .out => c.out.map fun p => .out p.1 p.2
  | .pend => c.pend.map .pend
  | .pipe => c.pipe.map .pipe
  | .store => c.store.map .store
  | .dlyPtr => c.dlyPtr.map .dlyPtr

/-- The kind of a register's entry. -/
def RegName.kind : RegName → Kind
  | .b => .b
  | .l => .l
  | .md => .md
  | .mc => .mc
  | .br => .br
  | .lr => .lr
  | .acc => .acc
  | .dlyi => .dlyi
  | .out _ => .out

/-- The one register of a kind: none for the DO registers and for what is no register. -/
def Kind.reg : Kind → Option RegName
  | .b => some .b
  | .l => some .l
  | .md => some .md
  | .mc => some .mc
  | .br => some .br
  | .lr => some .lr
  | .acc => some .acc
  | .dlyi => some .dlyi
  | .out | .pend | .pipe | .store | .dlyPtr => none

@[simp] theorem Write.value_reg (x : Write) : x.value.reg = x.reg := by cases x <;> rfl

theorem Write.reg_eq_kind_reg {x : Write} (h : x.kind ≠ .out) : x.reg = x.kind.reg := by
  cases x <;> first | rfl | exact absurd rfl h

theorem Write.reg_of_kind_reg {x : Write} {r : RegName} (h : x.kind.reg = some r) :
    x.reg = some r :=
  (Write.reg_eq_kind_reg fun ho => by simp [ho, Kind.reg] at h).trans h

theorem Write.kind_of_reg {x : Write} {r : RegName} (h : x.reg = some r) : x.kind = r.kind := by
  cases x <;> cases h <;> rfl

theorem Sched.writes_iff {c : Sched} {r : RegName} :
    c.writes r = true ↔ ∃ y, c.entry r.kind = some y ∧ y.reg = some r := by
  cases r with
  | out k => cases h : c.out <;> simp [Sched.writes, Sched.entry, RegName.kind, Write.reg, h]
  | _ => simp [Sched.writes, Sched.entry, RegName.kind, Write.reg, Option.isSome_iff_exists]

theorem issue_entry (w : InsnWord) (s : State) (κ : Kind) : (issue w s).sched.entry κ = none := by
  cases κ <;> rfl

/-- The ALU2 CLRACC leaves a zero scheduled for ACC, over a zero without a second write. -/
theorem clearAccAgain_eq (s : State) :
    ∃ q, clearAccAgain s = { s with sched := { s.sched with acc := some 0, conflict := q } } := by
  unfold clearAccAgain
  split
  · rename_i h
    exact ⟨s.sched.conflict, by rw [← h]⟩
  · exact ⟨_, rfl⟩

theorem Write.apply_entry_same (x : Write) (s : State) :
    (x.apply s).sched.entry x.kind = some x.value := by
  cases x with
  | accAgain =>
    obtain ⟨q, hq⟩ := clearAccAgain_eq s
    rw [Write.apply, hq]
    rfl
  | _ => rfl

theorem Write.apply_entry_other {x : Write} {κ : Kind} (h : x.kind ≠ κ) (s : State) :
    (x.apply s).sched.entry κ = s.sched.entry κ := by
  cases x with
  | accAgain =>
    obtain ⟨q, hq⟩ := clearAccAgain_eq s
    rw [Write.apply, hq]
    cases κ <;> first | rfl | exact absurd rfl h
  | _ => cases κ <;> first | rfl | exact absurd rfl h

/-- Of each kind a list of writes leaves either what was there or one of its own values, whatever
was scheduled before. -/
theorem applyAll_entry (ws : List Write) (κ : Kind) :
    ((∀ x ∈ ws, x.kind ≠ κ) ∧ ∀ s, (applyAll ws s).sched.entry κ = s.sched.entry κ) ∨
    ∃ x ∈ ws, x.kind = κ ∧ ∀ s, (applyAll ws s).sched.entry κ = some x.value := by
  induction ws with
  | nil => exact .inl ⟨nofun, fun _ => rfl⟩
  | cons x ws ih =>
    obtain ⟨hno, hkeep⟩ | ⟨y, hy, hk, hval⟩ := ih
    · by_cases hx : x.kind = κ
      · subst hx
        exact .inr ⟨x, by simp, rfl, fun s => (hkeep _).trans (x.apply_entry_same s)⟩
      · exact .inl ⟨List.forall_mem_cons.mpr ⟨hx, hno⟩,
          fun s => (hkeep _).trans (x.apply_entry_other hx s)⟩
    · exact .inr ⟨y, by simp [hy], hk, fun s => hval _⟩

theorem applyAll_entry_ne_none {ws : List Write} {x : Write} (hx : x ∈ ws) (s : State) :
    (applyAll ws s).sched.entry x.kind ≠ none := by
  obtain ⟨hno, -⟩ | ⟨y, -, -, hval⟩ := applyAll_entry ws x.kind
  · exact absurd rfl (hno x hx)
  · simp [hval s]

/-! ### Conflicts -/

/-- The write is the second of its register: one is scheduled already, and it is not the ALU2
CLRACC over a scheduled zero (10_state.md R47). -/
def Clash (x : Write) (c : Sched) : Prop :=
  x.reg ≠ none ∧ c.entry x.kind ≠ none ∧ ¬ (x = .accAgain ∧ c.entry x.kind = some (.acc 0))

/-- The two writes are not of one register. -/
def Write.Apart (x y : Write) : Prop := x.kind = y.kind → x.reg = none ∧ y.reg = none

theorem clash_congr {x : Write} {c k : Sched} (h : c.entry x.kind = k.entry x.kind) :
    Clash x c ↔ Clash x k := by
  simp only [Clash, h]

/-- A write after another that is not of its register meets what was scheduled before it. -/
theorem clash_apply_iff {x y : Write} (h : x.Apart y) (s : State) :
    Clash y (x.apply s).sched ↔ Clash y s.sched := by
  by_cases hk : x.kind = y.kind
  · simp [Clash, (h hk).2]
  · exact clash_congr (x.apply_entry_other hk s)

theorem Write.apply_conflict_some {x : Write} {s : State} {q : RegName}
    (h : s.sched.conflict = some q) : (x.apply s).sched.conflict = some q := by
  cases x with
  | accAgain =>
    simp only [Write.apply, clearAccAgain]
    split
    · exact h
    · simp [clearAcc, setAcc, noteWrite, h]
  | _ =>
    simp [Write.apply, setB, setL, setMd, setMc, setBr, setLr, setAcc, setDlyi, setOut, schedStore,
      selectPointer, noteWrite, h]

/-- The first conflict is noted by a write that clashes, and by no other. -/
theorem Write.apply_conflict {x : Write} {s : State} (h : s.sched.conflict = none) :
    (Clash x s.sched → (x.apply s).sched.conflict = x.reg) ∧
    (¬ Clash x s.sched → (x.apply s).sched.conflict = none) := by
  cases x with
  | accAgain =>
    by_cases h0 : s.sched.acc = some 0
    · simp [Write.apply, clearAccAgain, Clash, Sched.entry, Write.kind, h0, h]
    · cases ha : s.sched.acc <;>
        simp_all [Write.apply, clearAccAgain, clearAcc, setAcc, noteWrite, Clash, Sched.entry,
          Write.kind, Write.reg]
  | _ =>
    simp +contextual [Write.apply, setB, setL, setMd, setMc, setBr, setLr, setAcc, setDlyi, setOut,
      schedStore, selectPointer, noteWrite, Clash, Sched.entry, Write.kind, Write.reg, h,
      ← Option.isSome_iff_ne_none]

theorem applyAll_conflict_some {s : State} {q : RegName} (ws : List Write)
    (h : s.sched.conflict = some q) : (applyAll ws s).sched.conflict = some q := by
  induction ws generalizing s with
  | nil => exact h
  | cons x ws ih => exact ih (Write.apply_conflict_some h)

/-- A list of writes of different registers notes a conflict exactly when one of them clashes with
what was scheduled before the list. -/
theorem applyAll_conflict {ws : List Write} (hd : ws.Pairwise Write.Apart) {s : State}
    (hs : s.sched.conflict = none) :
    ((applyAll ws s).sched.conflict = none ∧ ∀ x ∈ ws, ¬ Clash x s.sched) ∨
    ∃ x ∈ ws, Clash x s.sched ∧ (applyAll ws s).sched.conflict = x.reg := by
  induction ws generalizing s with
  | nil => exact .inl ⟨hs, nofun⟩
  | cons x ws ih =>
    obtain ⟨hx, hd⟩ := List.pairwise_cons.mp hd
    by_cases hc : Clash x s.sched
    · obtain ⟨r, hr⟩ := Option.ne_none_iff_exists'.mp hc.1
      have hnote := (Write.apply_conflict hs).1 hc
      exact .inr ⟨x, by simp, hc, by
        rw [hr] at hnote ⊢
        exact applyAll_conflict_some ws hnote⟩
    · obtain ⟨hn, hall⟩ | ⟨y, hy, hcy, hr⟩ := ih hd ((Write.apply_conflict hs).2 hc)
      · refine .inl ⟨hn, List.forall_mem_cons.mpr ⟨hc, fun y hy => ?_⟩⟩
        rw [← clash_apply_iff (hx y hy)]
        exact hall y hy
      · exact .inr ⟨y, by simp [hy], (clash_apply_iff (hx y hy) s).mp hcy, hr⟩

/-! ### What the five fields schedule -/

/-- The fields that can schedule a write of the kind (10_state.md R46). -/
def Kind.fields : Kind → List Slot
  | .br | .lr | .pipe => [.alu1]
  | .acc => [.alu1, .alu2]
  | .dlyi | .out | .pend => [.alu2]
  | .b | .md => [.alu2, .mop1]
  | .l | .mc => [.alu2, .mop1, .mop2]
  | .store | .dlyPtr => [.mop3]

/-- The field of a word's n-th operation. -/
def slotAt : Fin 5 → Slot
  | 0 => .alu1
  | 1 => .alu2
  | 2 => .mop1
  | 3 => .mop2
  | 4 => .mop3

theorem fieldOp_slot {w : InsnWord} (hw : w.slotsOk = true) (n : Fin 5) :
    (fieldOp w n).slot = slotAt n := by
  obtain ⟨h1, h2, h3, h4, h5⟩ := slotsOk_iff.mp hw
  fin_cases n <;> assumption

/-- What two fields can both write is a register, the only one of its kind. -/
theorem Kind.reg_of_two_fields {κ : Kind} {m n : Fin 5} (hmn : m < n)
    (hm : slotAt m ∈ κ.fields) (hn : slotAt n ∈ κ.fields) :
    κ.reg.isSome = true := by
  cases κ <;> first
    | rfl
    | (revert m n; decide)

/-- Of the fields only ALU1 and ALU2 write ACC. -/
theorem acc_fields {m n : Fin 5} (hmn : m < n) (hm : slotAt m ∈ Kind.fields .acc)
    (hn : slotAt n ∈ Kind.fields .acc) : m = 0 ∧ n = 1 := by
  revert m n; decide

/-- An operation schedules only what its field can write. -/
theorem exec_entry_field {i : Instr} {s t : State} {κ : Kind} (h : exec i s = .next t)
    (hs : s.sched.entry κ = none) (ht : t.sched.entry κ ≠ none) : i.slot ∈ κ.fields := by
  cases hi : i.slot with
  | alu1 =>
    rw [alu1_sched hi h] at ht
    cases κ <;> first | exact absurd hs ht | decide
  | alu2 =>
    rw [alu2_sched hi h] at ht
    cases κ <;> first | exact absurd hs ht | decide
  | mop1 =>
    rw [mop1_sched hi h] at ht
    cases κ <;> first | exact absurd hs ht | decide
  | mop2 =>
    rw [mop2_sched hi h] at ht
    cases κ <;> first | exact absurd hs ht | decide
  | mop3 =>
    rw [(mop3_sched hi h).1] at ht
    cases κ <;> first | exact absurd hs ht | decide

/-- From `e`, whatever is scheduled beside the announced store, `f` schedules the writes of `ws`, no
two of one register. -/
def Issues (f : State → Result) (e : State) (ws : List Write) : Prop :=
  (∀ k, k.storeTo = e.sched.storeTo →
    f { e with sched := k } = .next (applyAll ws { e with sched := k })) ∧
  ws.Pairwise Write.Apart

/-- Writes of different registers, none of a DO register, are apart. -/
theorem pairwise_apart_of_nodup {ws : List Write} (ho : ∀ x ∈ ws, x.kind ≠ .out)
    (h : (ws.filterMap Write.reg).Nodup) : ws.Pairwise Write.Apart := by
  rw [List.Nodup, List.pairwise_filterMap] at h
  refine h.imp_of_mem fun {x y} hx hy hne hk => ?_
  have hreg : x.reg = y.reg := by
    rw [Write.reg_eq_kind_reg (ho x hx), Write.reg_eq_kind_reg (ho y hy), hk]
  cases hr : x.reg with
  | none => exact ⟨rfl, hreg ▸ hr⟩
  | some r => exact absurd rfl (hne r hr r (hreg ▸ hr))

/-- The writes of an ADD's sum under its clip (R187, R197). -/
def sumWrites (win : Clp32Window) (c : Clip) (d : Dest) (sum : Acc) : List Write :=
  match d with
  | .acc => [.acc sum]
  | .b => [.b (clip48 win c sum)]
  | .l => [.l (clip48 win c sum)]
  | .md => [.md (clip48 win c sum)]
  | .mc => [.mc (clipMc win c sum)]
  | .dlyi => [.dlyi (clip48 win c sum)]
  | .out k => [.out k (doValue win sum)]
  | .mdb => [.md (clip48 win c sum), .b (clip48 win c sum), .acc 0]

theorem writeSum_eq_applyAll (c : Clip) (d : Dest) (sum : Acc) (s : State) :
    writeSum c d sum s = applyAll (sumWrites s.cfg.clp32 c d sum) s := by
  cases d <;> rfl

theorem addTo_issues (a : OperandA) (b : OperandB) (c : Clip) (d : Dest) (e : State) :
    Issues (addTo a b c d) e (sumWrites e.cfg.clp32 c d (sumOf a b e)) := by
  refine ⟨fun k _ => congrArg _ (writeSum_eq_applyAll c d (sumOf a b e) { e with sched := k }), ?_⟩
  cases d <;> simp [sumWrites, Write.Apart, Write.kind]

theorem compare_issues (a : OperandA) (b : OperandB) (e : State) :
    Issues (compare a b) e [.pend (compFn (valueA a e) (valueB b e))] :=
  ⟨fun _ _ => rfl, List.pairwise_singleton ..⟩

/-- An ALU2 operation writes ACC as the ALU2 CLRACC does exactly when it is that. -/
theorem alu2_issues {i : Instr} (hi : i.slot = .alu2) (e : State) :
    ∃ ws, Issues (exec i) e ws ∧
      ∀ x ∈ ws, x.kind = .acc → (x = .accAgain ↔ i = .clraccAlu2) := by
  have other : ∀ {f ws}, Issues f e ws → (∀ x ∈ ws, x ≠ .accAgain) → i ≠ .clraccAlu2 →
      ∃ ws, Issues f e ws ∧ ∀ x ∈ ws, x.kind = .acc → (x = .accAgain ↔ i = .clraccAlu2) :=
    fun h hno hne => ⟨_, h, fun x hx _ => iff_of_false (hno x hx) hne⟩
  cases i <;> first
    | (cases hi; done)
    | exact other (addTo_issues _ _ _ _ e) (by simp [sumWrites]) nofun
    | exact other (compare_issues _ _ e) (by simp) nofun
    | exact ⟨[], ⟨fun _ _ => rfl, .nil⟩, nofun⟩
    | exact ⟨[.accAgain], ⟨fun _ _ => rfl, List.pairwise_singleton ..⟩, by simp⟩

/-- What an operation that goes through schedules. -/
theorem exec_issues {i : Instr} {e u : State} (he : ∀ κ, e.sched.entry κ = none)
    (h : exec i e = .next u) : ∃ ws, Issues (exec i) e ws ∧
      (i.slot = .alu2 → ∀ x ∈ ws, x.kind = .acc → (x = .accAgain ↔ i = .clraccAlu2)) := by
  by_cases hi : i.slot = .alu2
  · obtain ⟨ws, hws, hacc⟩ := alu2_issues hi e
    exact ⟨ws, hws, fun _ => hacc⟩
  · obtain ⟨ws, rfl, hnodup, hws⟩ := exec_schedules h
    refine ⟨ws, ⟨hws, pairwise_apart_of_nodup (fun x hx hk => hi ?_) hnodup⟩,
      fun hi' => absurd hi' hi⟩
    have hout := exec_entry_field h (he x.kind) (applyAll_entry_ne_none hx e)
    rw [hk] at hout
    simpa [Kind.fields] using hout

/-- Of the ALU1 operations only CLRACC writes ACC. -/
theorem alu1_acc {i : Instr} {e u : State} (hi : i.slot = .alu1) (h : exec i e = .next u)
    (he : e.sched.entry .acc = none) (hu : u.sched.entry .acc ≠ none) : i = .clraccAlu1 := by
  cases i <;> first
    | (cases hi; done)
    | rfl
    | (injection h with h; subst h; exact absurd he hu)
    | (obtain ⟨-, -, rfl⟩ := branchIf_next h; exact absurd he hu)

/-! ### A word's fields, one after the other -/

/-- The state after the first `n` fields have scheduled their writes. -/
def runFields (ws : Fin 5 → List Write) (e : State) : Nat → State
  | 0 => e
  | n + 1 => applyAll (ws (Fin.ofNat 5 n)) (runFields ws e n)

theorem runFields_succ (ws : Fin 5 → List Write) (e : State) (n : Fin 5) :
    runFields ws e (n + 1) = applyAll (ws n) (runFields ws e n) := by
  rw [runFields, Fin.ofNat_val_eq_self]

/-- What the proofs below know of a word: every operation stands in its field, and `ws` is what each
schedules. -/
structure WordWrites (w : InsnWord) (s : State) (ws : Fin 5 → List Write) : Prop where
  slots : w.slotsOk = true
  issues : ∀ n, Issues (exec (fieldOp w n)) (issue w s) (ws n)
  again : ∀ x ∈ ws 1, x.kind = .acc → (x = .accAgain ↔ w.alu2 = .clraccAlu2)

theorem exists_wordWrites {w : InsnWord} {s : State} (hw : w.slotsOk = true)
    (h : ∀ n : Fin 5, ∃ u, exec (fieldOp w n) (issue w s) = .next u) :
    ∃ ws, WordWrites w s ws := by
  have h' := fun n => have ⟨_, hu⟩ := h n; exec_issues (issue_entry w s) hu
  choose ws hws hacc using h'
  exact ⟨ws, hw, hws, hacc 1 (fieldOp_slot hw 1)⟩

/-- What is scheduled after the first `n` fields has been scheduled by one of them. -/
theorem runFields_entry {ws : Fin 5 → List Write} {e : State} {κ : Kind} {y : Write}
    (he : e.sched.entry κ = none) {n : Nat} (hn : n ≤ 5)
    (h : (runFields ws e n).sched.entry κ = some y) :
    ∃ m : Fin 5, m < n ∧ ∃ x ∈ ws m, x.kind = κ ∧ x.value = y := by
  induction n with
  | zero => simp [runFields, he] at h
  | succ n ih =>
    rw [runFields_succ ws e ⟨n, hn⟩] at h
    obtain ⟨-, hkeep⟩ | ⟨x, hx, hk, hval⟩ := applyAll_entry (ws ⟨n, hn⟩) κ
    · rw [hkeep] at h
      obtain ⟨m, hm, hrest⟩ := ih (by omega) h
      exact ⟨m, by omega, hrest⟩
    · rw [hval] at h
      exact ⟨⟨n, hn⟩, Nat.lt_succ_self n, x, hx, hk, Option.some.inj h⟩

/-- What a field has scheduled is not taken away by a later one. -/
theorem runFields_entry_ne_none {ws : Fin 5 → List Write} {m : Fin 5} {x : Write} (hx : x ∈ ws m)
    (e : State) {n : Nat} (hmn : m < n) (hn : n ≤ 5) :
    (runFields ws e n).sched.entry x.kind ≠ none := by
  induction n, hmn using Nat.le_induction with
  | base =>
    rw [runFields_succ]
    exact applyAll_entry_ne_none hx _
  | succ n _ ih =>
    rw [runFields_succ ws e ⟨n, hn⟩]
    obtain ⟨-, hkeep⟩ | ⟨y, -, -, hval⟩ := applyAll_entry (ws ⟨n, hn⟩) x.kind
    · rw [hkeep]
      exact ih (by omega)
    · simp [hval]

namespace WordWrites

variable {w : InsnWord} {s : State} {ws : Fin 5 → List Write}

theorem exec_field (H : WordWrites w s ws) (n : Fin 5) :
    exec (fieldOp w n) (issue w s) = .next (applyAll (ws n) (issue w s)) :=
  (H.issues n).1 _ rfl

theorem runFields_sched (ws : Fin 5 → List Write) (e : State) (n : Nat) :
    ∃ k, k.storeTo = e.sched.storeTo ∧ runFields ws e n = { e with sched := k } := by
  induction n with
  | zero => exact ⟨e.sched, rfl, rfl⟩
  | succ n ih =>
    obtain ⟨k, hk, hrun⟩ := ih
    obtain ⟨k', hk', happ⟩ := applyAll_sched (ws (Fin.ofNat 5 n)) (runFields ws e n)
    exact ⟨k', by rw [hk', hrun, hk], by rw [runFields, happ, hrun]⟩

/-- Each operation schedules its writes after those of the fields before it. -/
theorem exec_runFields (H : WordWrites w s ws) (n : Fin 5) :
    exec (fieldOp w n) (runFields ws (issue w s) n) = .next (runFields ws (issue w s) (n + 1)) := by
  obtain ⟨k, hk, hrun⟩ := runFields_sched ws (issue w s) n
  rw [runFields_succ, hrun]
  exact (H.issues n).1 k hk

theorem execFields_eq (H : WordWrites w s ws) :
    execFields w (issue w s) = .next (runFields ws (issue w s) 5) := by
  have h0 : exec w.alu1 (issue w s) = .next (runFields ws (issue w s) 1) := H.exec_runFields 0
  have h1 : exec w.alu2 (runFields ws (issue w s) 1) = .next (runFields ws (issue w s) 2) :=
    H.exec_runFields 1
  have h2 : exec w.mop1 (runFields ws (issue w s) 2) = .next (runFields ws (issue w s) 3) :=
    H.exec_runFields 2
  have h3 : exec w.mop2 (runFields ws (issue w s) 3) = .next (runFields ws (issue w s) 4) :=
    H.exec_runFields 3
  have h4 : exec w.mop3 (runFields ws (issue w s) 4) = .next (runFields ws (issue w s) 5) :=
    H.exec_runFields 4
  simp only [execFields, h0, h1, h2, h3, h4, andThen_next]

/-! ### What two fields write -/

theorem kind_fields (H : WordWrites w s ws) {n : Fin 5} {x : Write} (hx : x ∈ ws n) :
    slotAt n ∈ x.kind.fields := by
  rw [← fieldOp_slot H.slots n]
  exact exec_entry_field (H.exec_field n) (issue_entry w s _) (applyAll_entry_ne_none hx _)

/-- One field writes a register once. -/
theorem eq_of_kind (H : WordWrites w s ws) {n : Fin 5} {x y : Write} (hx : x ∈ ws n)
    (hy : y ∈ ws n) (hk : x.kind = y.kind) (hr : x.reg ≠ none) : x = y := by
  by_contra hne
  have : Std.Symm Write.Apart := ⟨fun _ _ h e => (h e.symm).symm⟩
  exact hr ((H.issues n).2.forall hx hy hne hk).1

theorem writesReg_iff (H : WordWrites w s ws) {n : Fin 5} {r : RegName} :
    WritesReg r (fieldOp w n) (issue w s) ↔ ∃ x ∈ ws n, x.reg = some r := by
  have hwrites : WritesReg r (fieldOp w n) (issue w s) ↔
      (applyAll (ws n) (issue w s)).sched.writes r = true := by
    simp [WritesReg, H.exec_field n]
  rw [hwrites, Sched.writes_iff]
  obtain ⟨hno, hkeep⟩ | ⟨x, hx, hk, hval⟩ := applyAll_entry (ws n) r.kind
  · refine iff_of_false ?_ ?_
    · simp [hkeep, issue_entry]
    · rintro ⟨x, hx, hr⟩
      exact hno x hx (Write.kind_of_reg hr)
  · rw [hval]
    constructor
    · rintro ⟨y, ⟨⟩, hr⟩
      exact ⟨x, hx, x.value_reg ▸ hr⟩
    · rintro ⟨y, hy, hr⟩
      have hyx := H.eq_of_kind hy hx (hk ▸ Write.kind_of_reg hr) (by simp [hr])
      exact ⟨x.value, rfl, by rw [x.value_reg, ← hyx, hr]⟩

/-- Two fields write ACC only as ALU1 and ALU2, and then the ALU1 operation is CLRACC. -/
theorem acc_of_two_fields (H : WordWrites w s ws) {m n : Fin 5} {x y : Write} (hmn : m < n)
    (hx : x ∈ ws m) (hy : y ∈ ws n) (hxa : x.kind = .acc) (hya : y.kind = .acc) :
    n = 1 ∧ w.alu1 = .clraccAlu1 := by
  obtain ⟨rfl, rfl⟩ := acc_fields hmn (hxa ▸ H.kind_fields hx) (hya ▸ H.kind_fields hy)
  exact ⟨rfl, alu1_acc (fieldOp_slot H.slots 0) (H.exec_field 0) (issue_entry w s _)
    (hxa ▸ applyAll_entry_ne_none hx _)⟩

/-- A write that clashes makes its register one that two fields write. -/
theorem writtenTwice_of_clash (H : WordWrites w s ws) {n : Fin 5} {x : Write} {r : RegName}
    (hx : x ∈ ws n) (hc : Clash x (runFields ws (issue w s) n).sched) (hr : x.reg = some r) :
    WrittenTwice r w s := by
  obtain ⟨-, hentry, hagain⟩ := hc
  obtain ⟨y, hy⟩ := Option.ne_none_iff_exists'.mp hentry
  obtain ⟨m, hmn, z, hz, hk, -⟩ := runFields_entry (issue_entry w s _) n.isLt.le hy
  have hmn : m < n := hmn
  have hshared := Kind.reg_of_two_fields hmn (hk ▸ H.kind_fields hz) (H.kind_fields hx)
  obtain ⟨q, hq⟩ := Option.isSome_iff_exists.mp hshared
  obtain rfl : q = r := Option.some.inj ((Write.reg_of_kind_reg hq).symm.trans hr)
  have hzr : z.reg = some q := Write.reg_of_kind_reg (hk ▸ hq)
  refine ⟨⟨m, n, hmn, H.writesReg_iff.mpr ⟨z, hz, hzr⟩, H.writesReg_iff.mpr ⟨x, hx, hr⟩⟩, ?_⟩
  rintro ⟨rfl, hclr1, hclr2⟩
  have hxa : x.kind = .acc := Write.kind_of_reg hr
  obtain ⟨rfl, -⟩ := H.acc_of_two_fields hmn hz hx (hk.trans hxa) hxa
  have hzero : runFields ws (issue w s) 1 = clearAcc (issue w s) := by
    have hexec : exec w.alu1 (issue w s) = _ := H.exec_runFields 0
    rw [hclr1] at hexec
    exact (Host.Outcome.next.inj hexec).symm
  refine hagain ⟨(H.again x hx hxa).mpr hclr2, ?_⟩
  rw [hxa]
  exact congrArg (fun t => t.sched.entry .acc) hzero

/-- A register that two fields write has a write that clashes. -/
theorem exists_clash_of_writtenTwice (H : WordWrites w s ws) {r : RegName}
    (h : WrittenTwice r w s) :
    ∃ n : Fin 5, ∃ x ∈ ws n, Clash x (runFields ws (issue w s) n).sched := by
  obtain ⟨⟨m, n, hmn, hm, hn⟩, hclr⟩ := h
  obtain ⟨z, hz, hzr⟩ := H.writesReg_iff.mp hm
  obtain ⟨x, hx, hxr⟩ := H.writesReg_iff.mp hn
  have hk : z.kind = x.kind := (Write.kind_of_reg hzr).trans (Write.kind_of_reg hxr).symm
  refine ⟨n, x, hx, by simp [hxr], hk ▸ runFields_entry_ne_none hz _ hmn n.isLt.le, ?_⟩
  rintro ⟨rfl, -⟩
  obtain ⟨rfl, hclr1⟩ := H.acc_of_two_fields hmn hz hx hk rfl
  exact hclr ⟨(Option.some.inj hxr).symm, hclr1, (H.again _ hx rfl).mp rfl⟩

/-- The fields note a conflict exactly when a write clashes, and it is the register of one. -/
theorem runFields_conflict (H : WordWrites w s ws) {n : Nat} (hn : n ≤ 5) :
    ((runFields ws (issue w s) n).sched.conflict = none ∧ ∀ m : Fin 5, m < n → ∀ x ∈ ws m,
      ¬ Clash x (runFields ws (issue w s) m).sched) ∨
    ∃ m : Fin 5, ∃ x ∈ ws m, Clash x (runFields ws (issue w s) m).sched ∧
      (runFields ws (issue w s) n).sched.conflict = x.reg := by
  induction n with
  | zero => exact .inl ⟨rfl, nofun⟩
  | succ n ih =>
    rw [runFields_succ ws _ ⟨n, hn⟩]
    obtain ⟨hnone, hall⟩ | ⟨m, x, hx, hc, hr⟩ := ih (by omega)
    · obtain ⟨hnone', hall'⟩ | ⟨x, hx, hc, hr⟩ := applyAll_conflict (H.issues ⟨n, hn⟩).2 hnone
      · refine .inl ⟨hnone', fun m hm => ?_⟩
        obtain hlt | heq := Nat.lt_succ_iff_lt_or_eq.mp hm
        · exact hall m hlt
        · obtain rfl : m = ⟨n, hn⟩ := Fin.ext heq
          exact hall'
      · exact .inr ⟨⟨n, hn⟩, x, hx, hc, hr⟩
    · obtain ⟨q, hq⟩ := Option.ne_none_iff_exists'.mp hc.1
      exact .inr ⟨m, x, hx, hc, (applyAll_conflict_some _ (hr.trans hq)).trans hq.symm⟩

/-- Where nothing clashes, what a field schedules on the state before the word is what all five
leave scheduled. -/
theorem runFields_entry_of_field (H : WordWrites w s ws)
    (hno : ∀ m : Fin 5, ∀ x ∈ ws m, ¬ Clash x (runFields ws (issue w s) m).sched)
    {m : Fin 5} {κ : Kind} {y : Write}
    (hy : (applyAll (ws m) (issue w s)).sched.entry κ = some y) {n : Nat} (hmn : m < n)
    (hn : n ≤ 5) : (runFields ws (issue w s) n).sched.entry κ = some y := by
  obtain ⟨-, hkeep⟩ | ⟨x, hx, rfl, hval⟩ := applyAll_entry (ws m) κ
  · simp [hkeep, issue_entry] at hy
  induction n, hmn using Nat.le_induction with
  | base => rw [runFields_succ, hval, ← hy, hval]
  | succ n hmn ih =>
    have hprev := ih (by omega)
    have hlt : m < (⟨n, hn⟩ : Fin 5) := hmn
    rw [runFields_succ ws _ ⟨n, hn⟩]
    obtain ⟨-, hkeep⟩ | ⟨z, hz, hk, hval'⟩ := applyAll_entry (ws ⟨n, hn⟩) x.kind
    · rw [hkeep, hprev]
    · have hshared := Kind.reg_of_two_fields hlt (H.kind_fields hx) (hk ▸ H.kind_fields hz)
      obtain ⟨q, hq⟩ := Option.isSome_iff_exists.mp hshared
      have hzr : z.reg = some q := Write.reg_of_kind_reg (hk ▸ hq)
      have hentry : (runFields ws (issue w s) n).sched.entry z.kind = some y := hk ▸ hprev
      have hagain : z = .accAgain ∧ some y = some (.acc 0) := by
        by_contra hag
        exact hno ⟨n, hn⟩ z hz ⟨by simp [hzr], by simp [hentry], by rwa [hentry]⟩
      rw [hval', hagain.1, hagain.2]
      rfl

end WordWrites

/-! ### The end of a word's clock -/

/-- A word that passes the checks with a PC operation in the pipe acts as all-NOP, so that it holds
none of its own (R162). -/
theorem alu1_nop_of_pipe {w : InsnWord} {s : State} (h : wordFault w s = none)
    (hp : s.pipe ≠ none) : w.alu1 = .nopAlu1 := by
  have hact : acting w = .nops := by
    by_contra hne
    simp [wordFault, Option.isSome_iff_ne_none.mpr hp, hne] at h
  have halu1 : (acting w).alu1 = w.alu1 := by
    unfold acting
    split <;> rfl
  rw [← halu1, hact]
  rfl

/-- An operation that schedules a branch stands in a word that finds no PC operation in the pipe. -/
theorem pipe_empty_of_branch {w : InsnWord} {s u : State} {n : Fin 5} (hw : w.slotsOk = true)
    (h : wordFault w s = none) (hu : exec (fieldOp w n) (issue w s) = .next u)
    (hbranch : u.sched.pipe ≠ none) : s.pipe = none := by
  by_contra hp
  have hfield : slotAt n ∈ Kind.fields .pipe := by
    rw [← fieldOp_slot hw n]
    exact exec_entry_field hu (issue_entry w s _) (by simpa [Sched.entry] using hbranch)
  obtain rfl : n = 0 := by clear hu; revert n; decide
  rw [fieldOp, alu1_nop_of_pipe h hp] at hu
  exact hbranch (congrArg (·.sched.pipe) (Host.Outcome.next.inj hu)).symm

/-- What is scheduled lands at the end of the clock, a branch only where the pipe is empty. -/
theorem landed_settle {c k : Sched} {s : State}
    (hck : ∀ κ y, c.entry κ = some y → k.entry κ = some y)
    (hpipe : c.pipe ≠ none → s.pipe = none) : Landed c (settle { s with sched := k }) := by
  have keep : ∀ {α : Type} {f : α → Write} {o o' : Option α}, Function.Injective f →
      (∀ y, o.map f = some y → o'.map f = some y) → ∀ {v}, o = some v → o' = some v :=
    fun hf h v hv => Option.map_injective hf (h _ (congrArg (Option.map _) hv))
  have hout : Function.Injective fun p : Fin 8 × OutWord => Write.out p.1 p.2 :=
    fun _ _ h => Prod.ext (Write.out.inj h).1 (Write.out.inj h).2
  have hst : ∀ {q}, c.store = some q → k.store = some q :=
    keep (fun _ _ => Write.store.inj) (hck .store)
  refine ⟨?_, ?_, ?_, ?_, ?_, ?_, ?_, ?_, ?_, ?_, ?_, ?_, ?_, ?_⟩
  · intro v h; simp [keep (fun _ _ => Write.b.inj) (hck .b) h]
  · intro v h; simp [keep (fun _ _ => Write.l.inj) (hck .l) h]
  · intro v h; simp [keep (fun _ _ => Write.md.inj) (hck .md) h]
  · intro v h; simp [keep (fun _ _ => Write.mc.inj) (hck .mc) h]
  · intro v h; simp [keep (fun _ _ => Write.br.inj) (hck .br) h]
  · intro v h; simp [keep (fun _ _ => Write.lr.inj) (hck .lr) h]
  · intro v h; simp [keep (fun _ _ => Write.acc.inj) (hck .acc) h]
  · intro v h; simp [keep (fun _ _ => Write.dlyi.inj) (hck .dlyi) h]
  · intro j v h; simp [keep hout (hck .out) h]
  · intro f h; simp [keep (fun _ _ => Write.pend.inj) (hck .pend) h]
  · intro p h; simp [nextPipe, hpipe (by simp [h]), keep (fun _ _ => Write.pipe.inj) (hck .pipe) h]
  · intro a v h; simp [nextData, hst h, Memory.read_write_same]
  · intro a v h; simp [nextCoef, hst h, Memory.read_write_same]
  · intro v h; simp [nextDreg0, hst h]

/-- A register of which no write is scheduled keeps its value. -/
theorem kept_settle {k : Sched} {s : State} {r : RegName} (h : k.writes r = false) :
    Kept r s (settle { s with sched := k }) := by
  cases r with
  | out j =>
    show (settle { s with sched := k }).outs[j] = s.outs[j]
    rw [settle_outs]
    cases ho : k.out with
    | none => rfl
    | some p =>
      have hne : p.1 ≠ j := by simpa [Sched.writes, ho] using h
      exact Vector.getElem_set_ne _ _ (Fin.val_ne_of_ne hne)
  | _ => simp_all [Sched.writes, Kept]

theorem execWord_conflict {w : InsnWord} {s t : State} {r : RegName} (h1 : wordFault w s = none)
    (h2 : unwrittenFault w s = none) (ht : execFields w (issue w s) = .next t)
    (hr : t.sched.conflict = some r) : execWord w s = .fault (.writeConflict r ⟨s.pc, s.now⟩) := by
  obtain ⟨k, rfl⟩ := execFields_schedOnly ht
  have hr : k.conflict = some r := hr
  simp only [execWord_of_checks h1 h2, ht, andThen_next, endOfClock, hr]
  rfl

/-- A word no two of whose fields write one register completes: every write lands, and the other
registers keep their values. -/
theorem WordWrites.completes {w : InsnWord} {s : State} {ws : Fin 5 → List Write}
    (H : WordWrites w s ws) (h1 : wordFault w s = none) (h2 : unwrittenFault w s = none)
    (hno : ∀ r, ¬ WrittenTwice r w s) :
    ∃ t, execWord w s = .next t ∧
      (∀ (n : Fin 5) (u : State), exec (fieldOp w n) (issue w s) = .next u → Landed u.sched t) ∧
      (∀ r, (∀ n : Fin 5, ¬ WritesReg r (fieldOp w n) (issue w s)) → Kept r s t) := by
  have hclash : ∀ m : Fin 5, ∀ x ∈ ws m, ¬ Clash x (runFields ws (issue w s) m).sched := by
    intro m x hx hc
    obtain ⟨r, hr⟩ := Option.ne_none_iff_exists'.mp hc.1
    exact hno r (H.writtenTwice_of_clash hx hc hr)
  have hconflict : (runFields ws (issue w s) 5).sched.conflict = none := by
    obtain ⟨hnone, -⟩ | ⟨m, x, hx, hc, -⟩ := H.runFields_conflict (le_refl 5)
    · exact hnone
    · exact absurd hc (hclash m x hx)
  obtain ⟨k, -, hk⟩ := runFields_sched ws (issue w s) 5
  have hword : execWord w s = .next (settle (runFields ws (issue w s) 5)) := by
    rw [execWord_of_checks h1 h2, H.execFields_eq, andThen_next, endOfClock_of_clean hconflict]
  refine ⟨_, hword, fun n u hu => ?_, fun r hr => ?_⟩
  · obtain rfl := Host.Outcome.next.inj ((H.exec_field n).symm.trans hu)
    rw [hk]
    refine landed_settle (s := s) (fun κ y hy => ?_) (pipe_empty_of_branch H.slots h1 hu)
    have hall := H.runFields_entry_of_field hclash hy n.isLt (le_refl 5)
    rwa [hk] at hall
  · rw [hk]
    refine kept_settle (s := s) (Bool.eq_false_iff.mpr fun hw => ?_)
    obtain ⟨y, hy, hyr⟩ := Sched.writes_iff.mp hw
    have hy' : (runFields ws (issue w s) 5).sched.entry r.kind = some y := by rw [hk]; exact hy
    obtain ⟨m, -, x, hx, -, rfl⟩ := runFields_entry (issue_entry w s _) (le_refl 5) hy'
    exact hr m (H.writesReg_iff.mpr ⟨x, hx, x.value_reg ▸ hyr⟩)

/-- A word two of whose fields write one register faults with such a register. -/
theorem WordWrites.faults {w : InsnWord} {s : State} {ws : Fin 5 → List Write}
    (H : WordWrites w s ws) (h1 : wordFault w s = none) (h2 : unwrittenFault w s = none)
    (htwice : ∃ r, WrittenTwice r w s) :
    ∃ r, WrittenTwice r w s ∧ execWord w s = .fault (.writeConflict r ⟨s.pc, s.now⟩) := by
  obtain ⟨q, hq⟩ := htwice
  obtain ⟨n, x, hx, hc⟩ := H.exists_clash_of_writtenTwice hq
  obtain ⟨-, hall⟩ | ⟨m, y, hy, hcy, hconflict⟩ := H.runFields_conflict (le_refl 5)
  · exact absurd hc (hall n n.isLt x hx)
  · obtain ⟨r, hr⟩ := Option.ne_none_iff_exists'.mp hcy.1
    exact ⟨r, H.writtenTwice_of_clash hy hcy hr,
      execWord_conflict h1 h2 H.execFields_eq (hconflict.trans hr)⟩

/-! ### The pairs of fields that can meet -/

theorem issue_schedOnly (w : InsnWord) (s : State) : SchedOnly s (issue w s) := ⟨_, rfl⟩

/-- A load goes through in a word that stores nothing, whatever else is scheduled. -/
theorem DataLoadable.read {a : Addr} {v : Data} {s t : State} (h : DataLoadable a v s)
    (ht : SchedOnly s t) (hstore : t.sched.storeTo = none) : memReadData a t = .ok v := by
  have hne : t.sched.storeTo ≠ some (.data, a) := by rw [hstore]; nofun
  obtain ⟨k, rfl⟩ := ht
  obtain ⟨hp, ha, hl, -, hr⟩ := h
  exact memReadData_loadable ⟨hp, ha, hl, hne, hr⟩

theorem CoefLoadable.read {a : Addr} {v : Coef} {s t : State} (h : CoefLoadable a v s)
    (ht : SchedOnly s t) (hstore : t.sched.storeTo = none) : memReadCoef a t = .ok v := by
  have hne : t.sched.storeTo ≠ some (.coef, a) := by rw [hstore]; nofun
  obtain ⟨k, rfl⟩ := ht
  obtain ⟨ha, hl, -, hr⟩ := h
  exact memReadCoef_ok_iff.mpr ⟨ha, hl, hne, hr⟩

theorem unwrittenFault_of_reads {w : InsnWord} {s : State}
    (h1 : ∀ a, mop1Reads s.acpb w.mop1 = some a → ∃ v, DataLoadable a v s)
    (h2 : ∀ a, mop2Reads s.acpb w.mop2 = some a → ∃ v, CoefLoadable a v s) :
    unwrittenFault w s = none := by
  have hd : (mop1Reads s.acpb w.mop1).filter (dataUnwritten · s) = none := by
    refine Option.filter_eq_none_iff.mpr fun a ha => ?_
    obtain ⟨v, -, -, -, -, hr⟩ := h1 a ha
    simp [dataUnwritten, hr]
  have hc : (mop2Reads s.acpb w.mop2).filter (coefUnwritten · s) = none := by
    refine Option.filter_eq_none_iff.mpr fun a ha => ?_
    obtain ⟨v, -, -, -, hr⟩ := h2 a ha
    simp [coefUnwritten, hr]
  simp only [unwrittenFault, hd, hc]

theorem execFields_of {w : InsnWord} {s s1 s2 s3 s4 t : State} (h1 : exec w.alu1 s = .next s1)
    (h2 : exec w.alu2 s1 = .next s2) (h3 : exec w.mop1 s2 = .next s3)
    (h4 : exec w.mop2 s3 = .next s4) (h5 : exec w.mop3 s4 = .next t) :
    execFields w s = .next t := by
  simp only [execFields, h1, h2, h3, h4, h5, andThen_next]

/-- Settles O52: the writes of the five fields as lists, of which two meet in one register exactly
when a write clashes; and one word for every pair of fields that can meet. -/
theorem writeConflict : Obligations.WriteConflict := by
  refine ⟨fun w s hw h1 h2 hexec => ?_, fun s a c v x hp hd hc p hmem => ?_⟩
  · obtain ⟨ws, H⟩ := exists_wordWrites hw hexec
    exact ⟨H.completes h1 h2, H.faults h1 h2⟩
  · have hdata : ∀ b, some a = some b → ∃ v, DataLoadable b v s := by rintro b ⟨⟩; exact ⟨v, hd⟩
    have hcoef : ∀ b, some c = some b → ∃ x, CoefLoadable b x s := by rintro b ⟨⟩; exact ⟨x, hc⟩
    have fault : ∀ {w : InsnWord} {t : State} {r : RegName}, pcFormBad w = false →
        busConflict w = false → delayPointerMissing w = false → unwrittenFault w s = none →
        execFields w (issue w s) = .next t → t.sched.conflict = some r →
        execWord w s = .fault (.writeConflict r ⟨s.pc, s.now⟩) :=
      fun f1 f2 f3 => execWord_conflict (wordFault_of_form hp f1 f2 f3)
    have issued := issue_schedOnly p.1 s
    have added : ∀ c d sum, SchedOnly s (writeSum c d sum (issue p.1 s)) :=
      fun c d sum => issued.trans (writeSum_schedOnly c d sum _)
    simp only [List.mem_cons, List.not_mem_nil, or_false] at hmem
    obtain rfl | rfl | rfl | rfl | rfl | rfl | rfl | rfl | rfl := hmem
    · exact fault rfl rfl rfl (unwrittenFault_of_reads hdata nofun)
        (execFields_of rfl rfl (loadData_of_ok (hd.read (added ..) rfl)) rfl rfl) rfl
    · exact fault rfl rfl rfl (unwrittenFault_of_reads hdata nofun)
        (execFields_of rfl rfl (loadData_of_ok (hd.read (added ..) rfl)) rfl rfl) rfl
    · exact fault rfl rfl rfl (unwrittenFault_of_reads hdata nofun)
        (execFields_of rfl rfl (loadData_of_ok (hd.read (added ..) rfl)) rfl rfl) rfl
    · exact fault rfl rfl rfl (unwrittenFault_of_reads hdata nofun)
        (execFields_of rfl rfl (loadData_of_ok (hd.read (added ..) rfl)) rfl rfl) rfl
    · exact fault rfl rfl rfl (unwrittenFault_of_reads nofun hcoef)
        (execFields_of rfl rfl rfl (loadCoef_of_ok (hc.read (added ..) rfl)) rfl) rfl
    · exact fault rfl rfl rfl (unwrittenFault_of_reads nofun hcoef)
        (execFields_of rfl rfl rfl (loadCoef_of_ok (hc.read (added ..) rfl)) rfl) rfl
    · exact fault rfl rfl rfl (unwrittenFault_of_reads hdata hcoef)
        (execFields_of rfl rfl (loadData_of_ok (hd.read issued rfl))
          (loadCoef_of_ok (hc.read (issued.trans (setMc_schedOnly ..)) rfl)) rfl) rfl
    · exact fault rfl rfl rfl (unwrittenFault_of_reads hdata hcoef)
        (execFields_of rfl rfl (loadData_of_ok (hd.read issued rfl))
          (loadCoef_of_ok (hc.read (issued.trans (setL_schedOnly ..)) rfl)) rfl) rfl
    · exact fault rfl rfl rfl (unwrittenFault_of_reads nofun nofun)
        (execFields_of rfl rfl rfl rfl rfl) rfl

end Sys2Proof.Machine

/-! Proofs of the statements of 10_state.md: reset (O1, O2), the stopped machine and what no step
changes (O6, O58), the multiplier (O20), CLRACC (O19), the pipe of a PC operation (O47, O48). -/

namespace Sys2Proof.Machine

/-! ### Reset -/

/-- A stopped machine with an empty pipe restarts at a frame boundary. -/
theorem step_frameBoundary {s : State} (hb : s.cfg.cyclesPerFrame ≤ s.frameClock)
    (hr : s.run = .stopped) (hp : s.pipe = none) : step s = .next (frameRestart s) := by
  simp [step, advance, frameBoundary, hb, hr, hp]

theorem frameRestart_di (s : State) (k : Fin 8) :
    (frameRestart s).di[k] = Config.diSample s.now k := by
  simp [frameRestart]

/-- Settles O1: the reset state field by field, and its first step, the frame restart. -/
theorem resetState : Obligations.ResetState := by
  refine ⟨rfl, rfl, rfl, rfl, rfl, fun _ => ⟨rfl, rfl, rfl⟩,
    ⟨rfl, rfl, rfl, rfl, rfl, rfl, rfl, rfl, rfl, rfl, rfl⟩,
    frameRestart State.reset, step_frameBoundary (Nat.le_refl _) rfl rfl, ?_⟩
  exact ⟨rfl, rfl, rfl, rfl, rfl, rfl, rfl, frameRestart_di _, fun _ => ⟨rfl, rfl, rfl⟩⟩

/-- Settles O2: the memories are empty, nothing is scheduled or in the pipe. -/
theorem resetInv : Obligations.ResetInv :=
  have empty : ∀ {w : Nat} (n : Nat), memoryOk n ([] : List (Nat × BitVec w)) :=
    fun _ => ⟨rfl, rfl⟩
  ⟨by decide, empty _, empty _, empty _, fun _ _ => rfl, rfl, pipeOk_none, fun _ => rfl,
    Nat.le_refl _, nofun⟩

/-! ### The stopped machine, and what no step changes -/

/-- A step of a stopped machine inside a frame is an idle clock, then the host's turn. -/
theorem step_stopped {s : State} (hb : s.frameClock < s.cfg.cyclesPerFrame)
    (hr : s.run = .stopped) : step s = hostTurn true (idleClock s) := by
  simp [step, advance, Nat.not_le.mpr hb, hr]

/-- Settles O6: with an idle host the step is the idle clock. -/
theorem stoppedClock : Obligations.StoppedClock := by
  intro s hb hr hq
  exact ⟨idleClock s, (step_stopped hb hr).trans (hostTurn_of_empty hq), rfl⟩

/-- The host's turn leaves the parameters and the instruction memory alone. -/
theorem hostTurn_keeps_program {free : Bool} {s t : State} (h : hostTurn free s = .next t) :
    t.cfg = s.cfg ∧ t.imem = s.imem := by
  obtain rfl | ⟨_, ⟨_, rfl⟩ | rfl | rfl | ⟨_, _, rfl⟩ | ⟨_, _, rfl⟩⟩ := hostTurn_next h <;>
    exact ⟨rfl, rfl⟩

theorem execWord_keeps_program {w : InsnWord} {s t : State} (h : execWord w s = .next t) :
    t.cfg = s.cfg ∧ t.imem = s.imem := by
  obtain ⟨-, -, k, -, -, rfl⟩ := execWord_next h
  exact ⟨rfl, rfl⟩

/-- Settles O58: a step is the frame restart, an idle clock or a word, the last two with the host's
turn. -/
theorem stepKeepsProgram : Obligations.StepKeepsProgram := by
  intro s t hstep
  obtain ⟨-, -, -, rfl⟩ | ⟨-, -, hturn⟩ | ⟨-, hr, w, u, -, hw, hturn⟩ := step_next hstep
  · exact ⟨rfl, rfl, fun _ _ => ⟨rfl, rfl, rfl, rfl⟩⟩
  · obtain ⟨hcfg, himem⟩ := hostTurn_keeps_program hturn
    refine ⟨hcfg, himem, fun _ hq => ?_⟩
    have hidle : hostTurn true (idleClock s) = .next (idleClock s) := hostTurn_of_empty hq
    obtain rfl := Host.Outcome.next.inj (hidle.symm.trans hturn)
    exact ⟨rfl, rfl, rfl, rfl⟩
  · obtain ⟨hcfg, himem⟩ := hostTurn_keeps_program hturn
    obtain ⟨hcfg', himem'⟩ := execWord_keeps_program hw
    exact ⟨hcfg.trans hcfg', himem.trans himem', fun hs => by simp [hr] at hs⟩

/-! ### The multiplier -/

/-- The product of a 48-bit and a 28-bit number fits into 76 bits (R180). -/
theorem product_toInt (md : Data) (mc : Coef) :
    (product md mc).toInt = md.toInt * mc.toInt := by
  have hd := BitVec.toInt_lt (x := md)
  have hd' := BitVec.le_toInt md
  have hc := BitVec.toInt_lt (x := mc)
  have hc' := BitVec.le_toInt mc
  rw [product, BitVec.toInt_ofInt]
  apply Int.bmod_eq_of_le <;> norm_num at * <;> nlinarith

/-- Settles O20: the product that lands is that of the registers before the word, which no
operation changes before the end of the clock. -/
theorem multiplierEveryClock : Obligations.MultiplierEveryClock := by
  intro w s t h
  obtain ⟨-, -, k, -, -, rfl⟩ := execWord_next h
  exact product_toInt s.md s.mc

/-! ### A word that passes the checks -/

/-- A word whose fields schedule `k`, no register twice, completes with the writes of `k`. -/
theorem execWord_of_sched {w : InsnWord} {s : State} {k : Sched} (h1 : wordFault w s = none)
    (h2 : unwrittenFault w s = none)
    (hk : execFields w (issue w s) = .next { s with sched := k }) (hc : k.conflict = none) :
    execWord w s = .next (settle { s with sched := k }) := by
  rw [execWord_of_checks h1 h2, hk, andThen_next]
  exact endOfClock_of_clean hc

/-- The clock of a word that finds the pipe empty, and whose fields schedule `k` without a DLYI
write, as changes of the clock that does nothing. -/
theorem execWord_ticked {w : InsnWord} {s : State} {k : Sched} (hp : s.pipe = none)
    (h1 : wordFault w s = none) (h2 : unwrittenFault w s = none)
    (hk : execFields w (issue w s) = .next { s with sched := k }) (hc : k.conflict = none)
    (hd : k.dlyi = none) :
    execWord w s = .next { ticked s with
      b := k.b.getD s.b, l := k.l.getD s.l, md := k.md.getD s.md, mc := k.mc.getD s.mc
      br := k.br.getD s.br, lr := k.lr.getD s.lr, acc := k.acc.getD s.acc
      outs := match k.out with
        | none => s.outs
        | some (i, v) => s.outs.set i v
      pend := k.pend, pipe := k.pipe.or s.pipe, lastStore := k.store.map storeAddress
      data := nextData { s with sched := k }, coef := nextCoef { s with sched := k }
      dreg0 := nextDreg0 { s with sched := k } } := by
  have hor : k.pipe.or s.pipe = k.pipe := by rw [hp, Option.or_none]
  rw [hor]
  exact (execWord_of_sched h1 h2 hk hc).trans (congrArg _ (settle_eq_ticked hp hd))

/-! ### CLRACC -/

/-- Settles O19: a CLRACC over a scheduled zero schedules nothing more. -/
theorem clraccCompletes : Obligations.ClraccCompletes := by
  intro s
  have hagain : s.sched.acc = none → exec .clraccAlu2 s = .next (setAcc 0 s) := fun h => by
    simp [exec, execClraccAlu2, clearAccAgain, clearAcc, h]
  refine ⟨rfl, hagain, fun h => ?_, fun hp => ?_⟩
  · simp [exec, execClraccAlu2, clearAccAgain, h]
  · have clears : ∀ {w : InsnWord}, wordFault w s = none → unwrittenFault w s = none →
        execFields w (issue w s) = .next { s with sched := { Sched.empty with acc := some 0 } } →
        execWord w s = .next { ticked s with acc := 0 } :=
      fun h1 h2 hk => execWord_ticked hp h1 h2 hk rfl rfl
    exact ⟨clears (wordFault_of_form hp rfl rfl rfl) rfl rfl,
      clears (wordFault_of_form hp rfl rfl rfl) rfl rfl,
      clears (wordFault_of_form hp rfl rfl rfl) rfl rfl⟩

/-! ### The pipe of a PC operation -/

/-- The words that act as all-NOP: the all-NOP word, and the one that holds only a DLYPTR (R280). -/
theorem acting_eq_nops_iff {w : InsnWord} :
    acting w = .nops ↔ w = .nops ∨ ∃ ptr, w = wordMop3 (.dlyptr ptr) := by
  constructor
  · intro h
    obtain ⟨i1, i2, i3, i4, i5⟩ := w
    unfold acting at h
    split at h
    · rename_i hd
      cases i5 <;> simp_all [isDlyptr, InsnWord.nops, wordMop3]
    · exact .inl h
  · rintro (rfl | ⟨ptr, rfl⟩) <;> rfl

/-- A word that acts as all-NOP passes the checks, whatever is in the pipe. -/
theorem wordFault_of_acting_nops {w : InsnWord} (s : State) (h : acting w = .nops) :
    wordFault w s = none := by
  have hform : pcFormBad w = false ∧ busConflict w = false ∧ delayPointerMissing w = false := by
    obtain rfl | ⟨ptr, rfl⟩ := acting_eq_nops_iff.mp h <;> exact ⟨rfl, rfl, rfl⟩
  simp [wordFault, h, hform]

/-- The clock of a word that writes nothing while a PC operation is in the pipe (R162). -/
theorem settle_eq_ticked_of_pipe {s : State} {p : Pipe} (hp : s.pipe = some p)
    (ptr : Option Addr) :
    settle { s with sched := { Sched.empty with dlyPtr := ptr } } =
      if p.remaining ≤ 1 then
        { ticked s with
          pipe := none
          pc := (match p.target with
            | some a => a.toNat
            | none => s.pc + 1)
          run := if p.stop then .stopped else s.run }
      else { ticked s with pipe := some { p with remaining := p.remaining - 1 } } := by
  by_cases hr : p.remaining ≤ 1 <;>
    simp [settle, ticked, hp, hr, Sched.empty, nextPc, nextPipe, nextRun, nextVol, nextDlyAge,
      nextDelayLog, nextDlyo, dlyLatency, nextData, nextCoef, nextDreg0] <;> rfl

/-- The clock of a word that acts as all-NOP. -/
theorem execWord_of_acting_nops {w : InsnWord} (s : State) (h : acting w = .nops) :
    ∃ ptr,
      execWord w s = .next (settle { s with sched := { Sched.empty with dlyPtr := ptr } }) := by
  have h1 := wordFault_of_acting_nops s h
  obtain rfl | ⟨ptr, rfl⟩ := acting_eq_nops_iff.mp h
  · exact ⟨none, execWord_of_sched h1 rfl rfl rfl⟩
  · exact ⟨some ptr, execWord_of_sched h1 rfl rfl rfl⟩

/-- Settles O48: the words that act as all-NOP pass, and the others fail the first check. -/
theorem pipePasses : Obligations.PipePasses := by
  intro s p hp
  have passes : ∀ {w : InsnWord}, acting w = .nops → execWord w s = .next _ := fun h => by
    obtain ⟨ptr, hw⟩ := execWord_of_acting_nops s h
    exact hw.trans (congrArg _ (settle_eq_ticked_of_pipe hp ptr))
  refine ⟨passes rfl, fun ptr => (passes rfl).trans (passes rfl).symm, fun w hn hd => ?_⟩
  have hact : acting w ≠ .nops := fun h => by
    obtain rfl | ⟨ptr, rfl⟩ := acting_eq_nops_iff.mp h
    · exact hn rfl
    · exact hd ptr rfl
  simp [execWord, wordFault, hp, hact, siteOf]

/-- STOP puts itself into an empty pipe (R166). -/
theorem execWord_stop {s : State} (hp : s.pipe = none) :
    execWord (wordAlu1 .stop) s = .next { ticked s with pipe := some ⟨3, none, true⟩ } :=
  execWord_ticked (k := { Sched.empty with pipe := some ⟨3, none, true⟩ }) hp
    (wordFault_of_form hp rfl rfl rfl) rfl rfl rfl rfl

/-- Settles O47: the pipe of STOP counts from 3 to 1 and drains. -/
theorem stopTakesFourClocks : Obligations.StopTakesFourClocks := by
  intro s hp
  rw [execWord_stop hp, andThen_next, (pipePasses _ _ rfl).1, if_neg (by decide), andThen_next,
    (pipePasses _ _ rfl).1, if_neg (by decide), andThen_next, (pipePasses _ _ rfl).1,
    if_pos (by decide)]
  exact ⟨_, rfl, rfl, rfl, rfl⟩

end Sys2Proof.Machine

/-! Proofs of the statements of 10_state.md, continued: the compare flag (O34) and the loads that
stop (O53). -/

namespace Sys2Proof.Machine

/-! ### Operands and the compare flag as integers -/

/-- Conv76 is the exact multiplication by 2^23 (R183). -/
theorem conv76_toInt (v : Data) : (conv76 v).toInt = v.toInt * 2 ^ 23 := by
  rw [conv76, BitVec.toInt_sshiftRight, BitVec.toInt_append_zero, Int.shiftRight_eq_div_pow]
  omega

theorem valueA_toInt (a : OperandA) (s : State) : (valueA a s).toInt = intA a s := by
  cases a with
  | acc => rfl
  | br => exact conv76_toInt s.br

theorem valueB_toInt (b : OperandB) (s : State) : (valueB b s).toInt = intB b s := by
  cases b with
  | mr => rfl
  | lr => exact conv76_toInt s.lr
  | zero => rfl

/-- CompFn is Table 15: like signs decide by themselves; of unlike ones the sign of the exact sum
says which magnitude is the greater (R210, R216). -/
theorem compFn_eq_sixRules (a b : Acc) : compFn a b = sixRules a.toInt b.toInt := by
  simp only [compFn, sixRules, BitVec.msb_eq_toInt]
  generalize a.toInt = x
  generalize b.toInt = y
  by_cases hx : x < 0 <;> by_cases hy : y < 0
  · simp [hx, hy, Int.not_le.mpr hx]
  · have hsum : x + y = 0 ↔ x.natAbs = y.natAbs := by omega
    have hlt : x + y < 0 ↔ y.natAbs < x.natAbs := by omega
    simp [hx, hy, Int.not_le.mpr hx, hsum, hlt]
  · have hsum : x + y = 0 ↔ x.natAbs = y.natAbs := by omega
    by_cases heq : x.natAbs = y.natAbs
    · simp [hx, hy, Int.not_le.mpr hy, hsum, heq]
    · have hlt : x + y < 0 ↔ x.natAbs ≤ y.natAbs := by omega
      simp [hx, hy, Int.not_le.mpr hy, hsum, heq, hlt, ← decide_not]
  · simp [hx, hy, Int.not_lt.mp hx, Int.not_lt.mp hy]

/-- A_CP_B after a word is what was pending before it. -/
theorem execWord_acpb {w : InsnWord} {s t : State} (h : execWord w s = .next t) :
    t.acpb = s.pend.getD s.acpb := by
  obtain ⟨-, -, k, -, -, rfl⟩ := execWord_next h
  rfl

/-- A word of a COMP leaves pending the result of the six rules on the operands before the word. -/
theorem execWord_comp_pend {w : InsnWord} {s t : State} {a : OperandA} {b : OperandB}
    (hw : w.slotsOk = true) (h : execWord w s = .next t)
    (hcomp : ∀ u, exec w.alu2 u = compare a b u) :
    t.pend = some (sixRules (intA a s) (intB b s)) := by
  obtain ⟨s1, s2, k, -, h2, ⟨k1, rfl⟩, -, rfl, -, -, -, -, hpend, -⟩ := execWord_sched hw h
  obtain rfl := Host.Outcome.next.inj ((hcomp _).symm.trans h2)
  have hvalue : k.pend = some (compFn (valueA a s) (valueB b s)) := hpend
  rw [settle_pend, hvalue, compFn_eq_sixRules, valueA_toInt, valueB_toInt]

/-- Settles O34: the result is pending after the word of the COMP, so that it is A_CP_B after the
next. -/
theorem compFlagTwoClocks : Obligations.CompFlagTwoClocks := by
  intro s t u p hp w w' hw halu2 ht hu
  refine ⟨execWord_acpb ht, ?_⟩
  have hcomp : ∀ v, exec p.1 v = compare p.2.1 p.2.2 v := by
    simp only [List.mem_cons, List.not_mem_nil, or_false] at hp
    obtain rfl | rfl | rfl | rfl := hp <;> exact fun _ => rfl
  have hpend : t.pend = _ := execWord_comp_pend hw ht (halu2 ▸ hcomp)
  rw [execWord_acpb hu, hpend, Option.getD_some]

/-! ### Loads that stop -/

/-- Of a load on the flag set and the same load on the flag clear, the one whose condition holds is
the load (R237). -/
theorem exec_taken {i j : Instr} {load : State → Result} {s : State}
    (hi : exec i s = loadIf (condSet s.acpb) load s)
    (hj : exec j s = loadIf (condClear s.acpb) load s) :
    exec (if s.acpb then i else j) s = load s := by
  cases h : s.acpb
  · simpa [h, condClear, loadIf] using hj
  · simpa [h, condSet, loadIf] using hi

/-- The loads of a DATA word that read it are a read and the write of a destination. -/
theorem exec_of_mem_dataLoads {s : State} {a : Addr} {p : Instr × (Data → State → State)}
    (hp : p ∈ dataLoads s.acpb a) : ∃ dest, exec p.1 s = loadData a dest s := by
  simp only [dataLoads, List.mem_cons, List.not_mem_nil, or_false] at hp
  obtain rfl | rfl | rfl | rfl | rfl | rfl | rfl | rfl := hp
  · exact ⟨_, rfl⟩
  · exact ⟨_, rfl⟩
  · exact ⟨_, rfl⟩
  · exact ⟨_, rfl⟩
  · exact ⟨_, rfl⟩
  · exact ⟨_, exec_taken rfl rfl⟩
  · exact ⟨_, exec_taken rfl rfl⟩
  · exact ⟨_, exec_taken rfl rfl⟩

theorem exec_of_mem_coefLoads {s : State} {a : Addr} {p : Instr × (Coef → State → State)}
    (hp : p ∈ coefLoads s.acpb a) : ∃ dest, exec p.1 s = loadCoef a dest s := by
  simp only [coefLoads, List.mem_cons, List.not_mem_nil, or_false] at hp
  obtain rfl | rfl | rfl := hp
  · exact ⟨_, rfl⟩
  · exact ⟨_, rfl⟩
  · exact ⟨_, exec_taken rfl rfl⟩

theorem loadData_of_error {a : Addr} {dest : Data → State → State} {s : State} {f : Fault}
    (h : memReadData a s = .error f) : loadData a dest s = .fault f := by
  simp [loadData, h]

theorem loadCoef_of_error {a : Addr} {dest : Coef → State → State} {s : State} {f : Fault}
    (h : memReadCoef a s = .error f) : loadCoef a dest s = .fault f := by
  simp [loadCoef, h]

/-- A word that the word before or this word stores to is not read (R82, R83). -/
theorem memReadData_inFlight {a : Addr} {s : State} (h : DataStorable a s)
    (hst : s.lastStore = some (.data, a) ∨ s.sched.storeTo = some (.data, a)) :
    memReadData a s = .error (.loadAfterStore .data a (siteOf s)) := by
  obtain ⟨hp, ha⟩ := h
  obtain ⟨h1, h2, h3, h4⟩ := plainAddr_iff.mp hp
  obtain hst | hst := hst <;> simp [memReadData, h1, h2, h3, h4, Nat.not_le.mpr ha, hst]

theorem memReadData_unwritten {a : Addr} {s : State} (h : DataStorable a s)
    (hl : s.lastStore ≠ some (.data, a)) (hst : s.sched.storeTo ≠ some (.data, a))
    (hr : Memory.read s.data a.toNat = none) :
    memReadData a s = .error (.unwrittenRead (.data a.toNat) (siteOf s)) := by
  obtain ⟨hp, ha⟩ := h
  obtain ⟨h1, h2, h3, h4⟩ := plainAddr_iff.mp hp
  simp [memReadData, h1, h2, h3, h4, Nat.not_le.mpr ha, hl, hst, hr]

theorem memReadData_outOfRange {a : Addr} {s : State}
    (h : a = 0x2BC ∨ a = 0x2BD ∨ a = 0x2BE ∨ (a ≠ 0x301 ∧ s.cfg.dataWords ≤ a.toNat)) :
    memReadData a s = .error (.addressOutOfRange .data a (siteOf s)) := by
  obtain rfl | rfl | rfl | ⟨hne, hpast⟩ := h
  · rfl
  · rfl
  · rfl
  · have hlfsr : a ≠ lfsrAddr := hne
    simp [memReadData, hlfsr, hpast]

theorem memReadCoef_outOfRange {a : Addr} {s : State} (h : s.cfg.coefWords ≤ a.toNat) :
    memReadCoef a s = .error (.addressOutOfRange .coef a (siteOf s)) := by
  simp [memReadCoef, h]

theorem memReadCoef_inFlight {a : Addr} {s : State} (h : a.toNat < s.cfg.coefWords)
    (hst : s.lastStore = some (.coef, a) ∨ s.sched.storeTo = some (.coef, a)) :
    memReadCoef a s = .error (.loadAfterStore .coef a (siteOf s)) := by
  obtain hst | hst := hst <;> simp [memReadCoef, Nat.not_le.mpr h, hst]

theorem memReadCoef_unwritten {a : Addr} {s : State} (h : a.toNat < s.cfg.coefWords)
    (hl : s.lastStore ≠ some (.coef, a)) (hst : s.sched.storeTo ≠ some (.coef, a))
    (hr : Memory.read s.coef a.toNat = none) :
    memReadCoef a s = .error (.unwrittenRead (.coef a.toNat) (siteOf s)) := by
  simp [memReadCoef, Nat.not_le.mpr h, hl, hst, hr]

/-- Settles O53: every load that reads stops where the read of its word does. -/
theorem loadsThatStop : Obligations.LoadsThatStop := by
  intro s a
  refine ⟨fun p hp => ?_, fun p hp => ?_⟩
  · obtain ⟨dest, hexec⟩ := exec_of_mem_dataLoads hp
    rw [hexec]
    exact ⟨fun h => loadData_of_error (memReadData_outOfRange h),
      fun h hst => loadData_of_error (memReadData_inFlight h hst),
      fun h hl hst hr => loadData_of_error (memReadData_unwritten h hl hst hr)⟩
  · obtain ⟨dest, hexec⟩ := exec_of_mem_coefLoads hp
    rw [hexec]
    exact ⟨fun h => loadCoef_of_error (memReadCoef_outOfRange h),
      fun h hst => loadCoef_of_error (memReadCoef_inFlight h hst),
      fun h hl hst hr => loadCoef_of_error (memReadCoef_unwritten h hl hst hr)⟩

end Sys2Proof.Machine

/-! Proofs of the statements of 10_state.md, continued: the PC, RUN and what a fault records
(O59). -/

namespace Sys2Proof.Machine

/-! ### Where a step faults -/

/-- If `r` is a fault, it records the site `x` (R301). -/
def FaultsAt (x : Site) (r : Result) : Prop := ∀ f, r = .fault f → f.site = x

theorem faultsAt_next (x : Site) (s : State) : FaultsAt x (.next s) := nofun

theorem faultsAt_fault {f : Fault} {x : Site} (h : f.site = x) : FaultsAt x (.fault f) := by
  rintro _ ⟨⟩
  exact h

theorem FaultsAt.andThen {x : Site} {r : Result} {g : State → Result} (hr : FaultsAt x r)
    (hg : ∀ u, r = .next u → FaultsAt x (g u)) : FaultsAt x (andThen r g) := by
  cases r with
  | next u => exact hg u rfl
  | fault f => exact faultsAt_fault (hr f rfl)
  | refused q => exact nofun

theorem exec_faultsAt {s u : State} (h : SchedOnly s u) (i : Instr) :
    FaultsAt (siteOf s) (exec i u) := by
  obtain ⟨k, rfl⟩ := h
  exact fun _ hf => (exec_fault hf).trans (siteOf_sched s k)

theorem execFields_faultsAt {s u : State} (h : SchedOnly s u) (w : InsnWord) :
    FaultsAt (siteOf s) (execFields w u) :=
  (exec_faultsAt h _).andThen fun _ h1 =>
    have o1 := h.trans (exec_schedOnly h1)
    (exec_faultsAt o1 _).andThen fun _ h2 =>
      have o2 := o1.trans (exec_schedOnly h2)
      (exec_faultsAt o2 _).andThen fun _ h3 =>
        have o3 := o2.trans (exec_schedOnly h3)
        (exec_faultsAt o3 _).andThen fun _ h4 => exec_faultsAt (o3.trans (exec_schedOnly h4)) _

theorem endOfClock_faultsAt {s u : State} (h : SchedOnly s u) :
    FaultsAt (siteOf s) (endOfClock u) := by
  obtain ⟨k, rfl⟩ := h
  unfold endOfClock
  split
  · exact faultsAt_fault rfl
  · exact faultsAt_next _ _

theorem wordFault_site {w : InsnWord} {s : State} {f : Fault} (h : wordFault w s = some f) :
    f.site = siteOf s := by
  unfold wordFault at h
  repeat' split at h
  all_goals cases h
  all_goals rfl

theorem unwrittenFault_site {w : InsnWord} {s : State} {f : Fault}
    (h : unwrittenFault w s = some f) : f.site = siteOf s := by
  unfold unwrittenFault at h
  repeat' split at h
  all_goals cases h
  all_goals rfl

/-- A word that faults records its own PC and clock. -/
theorem execWord_faultsAt (w : InsnWord) (s : State) : FaultsAt (siteOf s) (execWord w s) := by
  unfold execWord
  split
  · rename_i f hf
    exact faultsAt_fault (wordFault_site hf)
  · split
    · rename_i f hf
      exact faultsAt_fault (unwrittenFault_site hf)
    · have hissue := issue_schedOnly w s
      exact (execFields_faultsAt hissue w).andThen fun u hu =>
        endOfClock_faultsAt (hissue.trans (execFields_schedOnly hu))

theorem fetch_error {s : State} {f : Fault} (h : fetch s = .error f) : f.site = siteOf s := by
  unfold fetch at h
  repeat' split at h
  all_goals cases h
  all_goals rfl

theorem fetchDecode_error {s : State} {f : Fault} (h : fetchDecode s = .error f) :
    f.site = siteOf s := by
  unfold fetchDecode at h
  split at h
  · rename_i hf
    cases h
    exact fetch_error hf
  · split at h <;> cases h
    rfl

/-- A step that faults records the PC and the clock before it. -/
theorem step_faultsAt (s : State) : FaultsAt (siteOf s) (step s) := by
  unfold step advance
  split
  · unfold frameBoundary
    split
    · exact faultsAt_next _ _
    · exact faultsAt_fault rfl
  · split
    · exact fun f hf => absurd hf (hostTurn_ne_fault _ _ f)
    · unfold runClock
      split
      · rename_i f hf
        exact faultsAt_fault (fetchDecode_error hf)
      · exact (execWord_faultsAt _ s).andThen fun u _ f hf =>
          absurd hf (hostTurn_ne_fault _ _ f)

/-! ### The PC and RUN -/

/-- The next PC: the target when the pipe of a taken branch drains, else the next address. -/
theorem nextPc_eq (s : State) :
    nextPc s = match s.pipe with
      | some ⟨n, some a, _⟩ => if n ≤ 1 then a.toNat else s.pc + 1
      | _ => s.pc + 1 := by
  rcases h : s.pipe with _ | ⟨n, _ | a, stop⟩ <;> simp [nextPc, h]

/-- A machine stops only when the pipe of a STOP drains. -/
theorem pipe_of_nextRun_stopped {s : State} (hr : s.run = .running) (h : nextRun s = .stopped) :
    ∃ n a, s.pipe = some ⟨n, a, true⟩ ∧ n ≤ 1 := by
  rcases hp : s.pipe with _ | ⟨n, a, stop⟩
  · simp [nextRun, hp, hr] at h
  · by_cases hd : n ≤ 1 ∧ stop = true
    · obtain ⟨hn, rfl⟩ := hd
      exact ⟨n, a, rfl, hn⟩
    · simp [nextRun, hp, hr, hd] at h

/-- Of the ALU1 operations only the PC operations fill the pipe. -/
theorem alu1_keeps_pipe {i : Instr} {s t : State} (hi : i.slot = .alu1) (hpc : isPcOp i = false)
    (h : exec i s = .next t) : t.sched.pipe = s.sched.pipe := by
  cases i <;> first
    | (cases hi; done)
    | (cases hpc; done)
    | (injection h with h; subst h; rfl)

/-- Settles O59: every part of a step faults at the PC and clock of the state before it, and the end
of the clock takes the PC, RUN and PIPE from the old pipe. -/
theorem pcAndRun : Obligations.PcAndRun := by
  refine ⟨step_faultsAt, fun w s t h => ⟨?_, fun hr ht => ?_, fun hp hpc hw => ?_⟩⟩
  · obtain ⟨-, -, k, -, -, rfl⟩ := execWord_next h
    exact (nextPc_eq _).trans (by rfl)
  · obtain ⟨-, -, k, -, -, rfl⟩ := execWord_next h
    exact pipe_of_nextRun_stopped (s := { s with sched := k }) hr ht
  · obtain ⟨s1, -, k, h1, -, -, -, rfl, -, -, -, hpipe, -⟩ := execWord_sched hw h
    have hs1 : s1.sched.pipe = none := alu1_keeps_pipe (slotsOk_iff.mp hw).1 hpc h1
    simp [nextPipe, hp, hpipe, hs1]

end Sys2Proof.Machine

/-! Proofs of the statements of 10_state.md, continued: who writes a register (O56), and the delay
timer (O60). Each operation schedules a list of writes, all of registers that it can write. -/

namespace Sys2Proof.Machine

/-! ### Who writes a register -/

/-- The operations that can write a register, of all fields, the conditional ones under the flag
that lets them (10_state.md R21 to R28, R34, R37). -/
def MayWrite (flag : Bool) (r : RegName) (i : Instr) : Prop :=
  match r with
  | .br => i ∈ ([.absB, .negB, .thruB, .shr1, .shr2, .shr3, .shr4, .shl1, .shl2, .shl3, .shl4,
      .shl20] : List Instr)
  | .lr => i ∈ ([.absL, .negL, .thruL, .log2, .alog2] : List Instr)
  | .acc => i ∈ ([.clraccAlu1] : List Instr) ∨ i ∈ ([.clraccAlu2, .addBrMrNoneAcc, .addAccMrNoneAcc,
      .addAccLrNoneAcc, .addAccMrNoneMdb] : List Instr)
  | .b => i ∈ ([.addBrMrNoneB, .addBrLrNoneB, .addAccMrNoneB, .addAccLrNoneB, .addAccZeroNoneB,
        .addBrZeroNoneB, .addBrZeroClp32B, .addAccZeroClp28B, .addAccMrNoneMdb] : List Instr) ∨
      ∃ a, i ∈ ([.ldDataB a, .ldDataBl a, if flag then .ldcDataB a else .lncDataB a] : List Instr)
  | .l => i ∈ ([.addBrMrNoneL, .addBrLrNoneL, .addAccMrNoneL, .addAccLrNoneL, .addAccZeroNoneL,
        .addBrZeroNoneL, .addAccZeroClp28L] : List Instr) ∨
      (∃ a, i ∈ ([.ldDataL a, .ldDataBl a, if flag then .ldcDataL a else .lncDataL a] :
        List Instr)) ∨
      ∃ a, i ∈ ([.ldCoefL a] : List Instr)
  | .md => i ∈ ([.addBrMrNoneMd, .addBrLrNoneMd, .addAccMrNoneMd, .addAccLrNoneMd,
        .addAccZeroNoneMd, .addBrZeroNoneMd, .addAccMrNoneMdb] : List Instr) ∨
      ∃ a, i ∈ ([.ldDataMd a, if flag then .ldcDataMd a else .lncDataMd a] : List Instr)
  | .mc => i ∈ ([.addBrMrNoneMc, .addBrLrNoneMc, .addAccMrNoneMc, .addAccLrNoneMc,
        .addBrZeroNoneMc, .addAccZeroClp28Mc] : List Instr) ∨
      (∃ a, i ∈ ([.ldDataMc a] : List Instr)) ∨
      ∃ a, i ∈ ([.ldCoefMc a, if flag then .ldcCoefMc a else .lncCoefMc a] : List Instr)
  | .dlyi => i ∈ ([.addBrMrNoneDlyi, .addBrLrNoneDlyi, .addAccMrNoneDlyi, .addAccLrNoneDlyi] :
      List Instr)
  | .out k => i ∈ outputForms k

/-- From `s` to `t` writes are scheduled, and none of a register that the operation cannot write. -/
def WritesOf (i : Instr) (s t : State) : Prop :=
  ∃ ws : List Write, t = applyAll ws s ∧ ∀ r ∈ ws.filterMap Write.reg, MayWrite s.acpb r i

theorem writesOf_none (i : Instr) (s : State) : WritesOf i s s := ⟨[], rfl, nofun⟩

theorem writesOf_one {i : Instr} {s : State} {x : Write} {r : RegName} (hr : x.reg = some r)
    (hm : MayWrite s.acpb r i) : WritesOf i s (x.apply s) :=
  ⟨[x], rfl, by simpa [hr] using hm⟩

/-- A write of what is no register. -/
theorem writesOf_other {i : Instr} {s : State} {x : Write} (hx : x.reg = none) :
    WritesOf i s (x.apply s) :=
  ⟨[x], rfl, by simp [hx]⟩

/-- The registers that an ADD to the destination writes (R187). -/
def Dest.regs : Dest → List RegName
  | .acc => [.acc]
  | .b => [.b]
  | .l => [.l]
  | .md => [.md]
  | .mc => [.mc]
  | .dlyi => [.dlyi]
  | .out k => [.out k]
  | .mdb => [.md, .b, .acc]

theorem addTo_writesOf {i : Instr} {a : OperandA} {b : OperandB} {c : Clip} {d : Dest} {s t : State}
    (h : addTo a b c d s = .next t) (hd : ∀ r ∈ d.regs, MayWrite s.acpb r i) :
    WritesOf i s t := by
  refine ⟨sumWrites s.cfg.clp32 c d (sumOf a b s), ?_, ?_⟩
  · exact (addTo_next h).trans (writeSum_eq_applyAll c d _ s)
  · cases d <;> exact hd

theorem loadData_writesOf {i : Instr} {a : Addr} {s t : State} {r : RegName} (x : Data → Write)
    (hr : ∀ v, (x v).reg = some r) (hm : MayWrite s.acpb r i)
    (h : loadData a (fun v => (x v).apply) s = .next t) : WritesOf i s t := by
  obtain ⟨v, -, rfl⟩ := loadData_next h
  exact writesOf_one (hr v) hm

theorem loadCoef_writesOf {i : Instr} {a : Addr} {s t : State} {r : RegName} (x : Coef → Write)
    (hr : ∀ v, (x v).reg = some r) (hm : MayWrite s.acpb r i)
    (h : loadCoef a (fun v => (x v).apply) s = .next t) : WritesOf i s t := by
  obtain ⟨v, -, rfl⟩ := loadCoef_next h
  exact writesOf_one (hr v) hm

theorem loadIf_writesOf {i : Instr} {c : Bool} {load : State → Result} {s t : State}
    (hl : c = true → load s = .next t → WritesOf i s t) (h : loadIf c load s = .next t) :
    WritesOf i s t := by
  obtain ⟨hc, h⟩ | ⟨-, rfl⟩ := loadIf_next h
  · exact hl hc h
  · exact ⟨[], rfl, nofun⟩

theorem alu1_writesOf {i : Instr} {s t : State} (hi : i.slot = .alu1) (h : exec i s = .next t) :
    WritesOf i s t := by
  cases i <;> first
    | (cases hi; done)
    | (obtain ⟨-, -, rfl⟩ := branchIf_next h
       exact writesOf_other (x := .pipe _) rfl)
    | (obtain rfl := Host.Outcome.next.inj h
       first
         | exact writesOf_none _ s
         | exact writesOf_other (x := .pipe _) rfl
         | exact writesOf_one (x := .br _) (r := .br) rfl (List.mem_of_elem_eq_true rfl)
         | exact writesOf_one (x := .lr _) (r := .lr) rfl (List.mem_of_elem_eq_true rfl)
         | exact writesOf_one (x := .acc 0) (r := .acc) rfl (.inl (List.mem_of_elem_eq_true rfl)))

/-- Each ADD stands in the list of its destination. -/
theorem alu2_writesOf {i : Instr} {s t : State} (hi : i.slot = .alu2) (h : exec i s = .next t) :
    WritesOf i s t := by
  have add : ∀ {a b c d r}, addTo a b c d s = .next t → d.regs = [r] → MayWrite s.acpb r i →
      WritesOf i s t := fun e hr hm =>
    addTo_writesOf e (hr ▸ List.forall_mem_singleton.mpr hm)
  cases i <;> first
    | (cases hi; done)
    | exact add h rfl (.inl (List.mem_of_elem_eq_true rfl))
    | exact add h rfl (.inr (List.mem_of_elem_eq_true rfl))
    | exact add h rfl (List.mem_of_elem_eq_true rfl)
    | exact addTo_writesOf h (by simp [Dest.regs, MayWrite])
    | (obtain rfl := Host.Outcome.next.inj h
       first
         | exact writesOf_none _ s
         | exact writesOf_other (x := .pend _) rfl
         | exact writesOf_one (x := .accAgain) (r := .acc) rfl (.inr (List.mem_of_elem_eq_true rfl)))

theorem condSet_iff {flag : Bool} : condSet flag = true ↔ flag = true := Iff.rfl

theorem condClear_iff {flag : Bool} : condClear flag = true ↔ flag = false := by
  simp [condClear]

theorem mop1_writesOf {i : Instr} {s t : State} (hi : i.slot = .mop1) (h : exec i s = .next t) :
    WritesOf i s t := by
  cases i with
  | nopMop1 => exact Host.Outcome.next.inj h ▸ writesOf_none _ s
  | ldDataMd a => exact loadData_writesOf .md (fun _ => rfl) (.inr ⟨a, by simp⟩) h
  | ldDataB a => exact loadData_writesOf .b (fun _ => rfl) (.inr ⟨a, by simp⟩) h
  | ldDataL a => exact loadData_writesOf .l (fun _ => rfl) (.inr (.inl ⟨a, by simp⟩)) h
  | ldDataMc a =>
    exact loadData_writesOf (fun v => .mc (coefOfData v)) (fun _ => rfl)
      (.inr (.inl ⟨a, by simp⟩)) h
  | ldDataBl a =>
    obtain ⟨v, -, rfl⟩ := loadData_next h
    exact ⟨[.b v, .l v], rfl, by simp [Write.reg, MayWrite]⟩
  | ldcDataMd a =>
    exact loadIf_writesOf (fun (hc : condSet s.acpb = true) =>
      loadData_writesOf .md (fun _ => rfl) (.inr ⟨a, by simp [condSet_iff.mp hc]⟩)) h
  | ldcDataB a =>
    exact loadIf_writesOf (fun (hc : condSet s.acpb = true) =>
      loadData_writesOf .b (fun _ => rfl) (.inr ⟨a, by simp [condSet_iff.mp hc]⟩)) h
  | ldcDataL a =>
    exact loadIf_writesOf (fun (hc : condSet s.acpb = true) =>
      loadData_writesOf .l (fun _ => rfl) (.inr (.inl ⟨a, by simp [condSet_iff.mp hc]⟩))) h
  | lncDataMd a =>
    exact loadIf_writesOf (fun (hc : condClear s.acpb = true) =>
      loadData_writesOf .md (fun _ => rfl) (.inr ⟨a, by simp [condClear_iff.mp hc]⟩)) h
  | lncDataB a =>
    exact loadIf_writesOf (fun (hc : condClear s.acpb = true) =>
      loadData_writesOf .b (fun _ => rfl) (.inr ⟨a, by simp [condClear_iff.mp hc]⟩)) h
  | lncDataL a =>
    exact loadIf_writesOf (fun (hc : condClear s.acpb = true) =>
      loadData_writesOf .l (fun _ => rfl) (.inr (.inl ⟨a, by simp [condClear_iff.mp hc]⟩))) h
  | _ => cases hi

theorem mop2_writesOf {i : Instr} {s t : State} (hi : i.slot = .mop2) (h : exec i s = .next t) :
    WritesOf i s t := by
  cases i with
  | nopMop2 => exact Host.Outcome.next.inj h ▸ writesOf_none _ s
  | ldCoefMc a => exact loadCoef_writesOf .mc (fun _ => rfl) (.inr (.inr ⟨a, by simp⟩)) h
  | ldCoefL a =>
    exact loadCoef_writesOf (fun v => .l (dataOfCoef v)) (fun _ => rfl) (.inr (.inr ⟨a, by simp⟩)) h
  | ldcCoefMc a =>
    exact loadIf_writesOf (fun (hc : condSet s.acpb = true) =>
      loadCoef_writesOf .mc (fun _ => rfl) (.inr (.inr ⟨a, by simp [condSet_iff.mp hc]⟩))) h
  | lncCoefMc a =>
    exact loadIf_writesOf (fun (hc : condClear s.acpb = true) =>
      loadCoef_writesOf .mc (fun _ => rfl) (.inr (.inr ⟨a, by simp [condClear_iff.mp hc]⟩))) h
  | _ => cases hi

theorem storeData_writesOf {i : Instr} {a : Addr} {v : Data} {s t : State}
    (h : storeData a v s = .next t) : WritesOf i s t := by
  obtain ⟨-, rfl⟩ | ⟨-, rfl⟩ := storeData_next h <;> exact writesOf_other (x := .store _) rfl

theorem storeCoef_writesOf {i : Instr} {a : Addr} {v : Data} {s t : State}
    (h : storeCoef a v s = .next t) : WritesOf i s t := by
  obtain ⟨-, rfl⟩ := storeCoef_next h
  exact writesOf_other (x := .store _) rfl

theorem mop3_writesOf {i : Instr} {s t : State} (hi : i.slot = .mop3) (h : exec i s = .next t) :
    WritesOf i s t := by
  cases i with
  | nopMop3 => exact Host.Outcome.next.inj h ▸ writesOf_none _ s
  | pcaddr label => exact Host.Outcome.next.inj h ▸ writesOf_none _ s
  | dlyptr ptr => exact Host.Outcome.next.inj h ▸ writesOf_other (x := .dlyPtr ptr) rfl
  | stMdData a => exact storeData_writesOf h
  | stBData a => exact storeData_writesOf h
  | stLData a => exact storeData_writesOf h
  | stDiData a => exact storeData_writesOf h
  | stVolData a => exact storeData_writesOf h
  | stDlyoData a =>
    simp only [exec, execStDlyoData] at h
    split at h
    · exact storeData_writesOf h
    · cases h
  | stMdCoef a => exact storeCoef_writesOf h
  | stBCoef a => exact storeCoef_writesOf h
  | stLCoef a => exact storeCoef_writesOf h
  | _ => cases hi

/-- A meaning schedules writes of registers that its operation can write, and of no other. -/
theorem exec_writesOf {i : Instr} {s t : State} (h : exec i s = .next t) : WritesOf i s t := by
  cases hi : i.slot with
  | alu1 => exact alu1_writesOf hi h
  | alu2 => exact alu2_writesOf hi h
  | mop1 => exact mop1_writesOf hi h
  | mop2 => exact mop2_writesOf hi h
  | mop3 => exact mop3_writesOf hi h

theorem applyAll_writes {ws : List Write} {s : State} {r : RegName}
    (h : (applyAll ws s).sched.writes r = true) :
    s.sched.writes r = true ∨ r ∈ ws.filterMap Write.reg := by
  obtain ⟨y, hy, hr⟩ := Sched.writes_iff.mp h
  obtain ⟨-, hkeep⟩ | ⟨x, hx, -, hval⟩ := applyAll_entry ws r.kind
  · rw [hkeep] at hy
    exact .inl (Sched.writes_iff.mpr ⟨y, hy, hr⟩)
  · rw [hval] at hy
    obtain rfl := Option.some.inj hy
    exact .inr (List.mem_filterMap.mpr ⟨x, hx, x.value_reg ▸ hr⟩)

/-- A register of which an operation of a word schedules a write is one that it can write. -/
theorem exec_writes {i : Instr} {s u t : State} {r : RegName} (hu : SchedOnly s u)
    (h : exec i u = .next t) (hr : t.sched.writes r = true) :
    u.sched.writes r = true ∨ MayWrite s.acpb r i := by
  obtain ⟨k, rfl⟩ := hu
  obtain ⟨ws, rfl, hws⟩ := exec_writesOf h
  exact (applyAll_writes hr).imp_right (hws r)

/-- A word schedules no write of a register that none of its operations can write. -/
theorem execFields_no_write {w : InsnWord} {s : State} {k : Sched} {r : RegName}
    (hk : execFields w (issue w s) = .next { s with sched := k })
    (hr : ∀ n, ¬ MayWrite s.acpb r (fieldOp w n)) : k.writes r = false := by
  obtain ⟨s1, s2, s3, s4, h1, h2, h3, h4, h5⟩ := execFields_next hk
  have o0 := issue_schedOnly w s
  have o1 := o0.trans (exec_schedOnly h1)
  have o2 := o1.trans (exec_schedOnly h2)
  have o3 := o2.trans (exec_schedOnly h3)
  have o4 := o3.trans (exec_schedOnly h4)
  refine Bool.eq_false_iff.mpr fun hw => ?_
  have w4 := (exec_writes o4 h5 hw).resolve_right (hr 4)
  have w3 := (exec_writes o3 h4 w4).resolve_right (hr 3)
  have w2 := (exec_writes o2 h3 w3).resolve_right (hr 2)
  have w1 := (exec_writes o1 h2 w2).resolve_right (hr 1)
  have w0 := (exec_writes o0 h1 w1).resolve_right (hr 0)
  have empty : (issue w s).sched.writes r = false := by cases r <;> rfl
  simp [empty] at w0

/-- A register that no operation of a word can write keeps its value. -/
theorem execWord_kept {w : InsnWord} {s t : State} {r : RegName} (h : execWord w s = .next t)
    (hr : ∀ n, ¬ MayWrite s.acpb r (fieldOp w n)) : Kept r s t := by
  obtain ⟨-, -, k, hk, -, rfl⟩ := execWord_next h
  exact kept_settle (execFields_no_write hk hr)

/-- Of a word's fields only the one that a list's operations belong to can hold one of them. -/
theorem fieldOp_mem {w : InsnWord} (hw : w.slotsOk = true) {l : List Instr} {m n : Fin 5}
    (hl : l.all (·.slot == slotAt m) = true) (h : fieldOp w n ∈ l) : fieldOp w m ∈ l := by
  have hslot : slotAt n = slotAt m :=
    (fieldOp_slot hw n).symm.trans (eq_of_beq (List.all_eq_true.mp hl _ h))
  have hnm : n = m := by
    clear h hl
    revert m n
    decide
  exact hnm ▸ h

theorem outputForms_slot : ∀ k : Fin 8, (outputForms k).all (·.slot == .alu2) = true := by decide

/-- Only a COMP schedules a compare result. -/
theorem alu2_keeps_pend {i : Instr} {s t : State} (hi : i.slot = .alu2)
    (hc : i ∉ ([.compBrMr, .compBrLr, .compAccMr, .compAccLr] : List Instr))
    (h : exec i s = .next t) : t.sched.pend = s.sched.pend := by
  have add : ∀ {a b c d}, addTo a b c d s = .next t → t.sched.pend = s.sched.pend := by
    intro a b c d e
    rw [addTo_next e, writeSum_sched]
  cases i <;> first
    | (cases hi; done)
    | exact add h
    | exact absurd (List.mem_of_elem_eq_true rfl) hc
    | exact Host.Outcome.next.inj h ▸ rfl
    | (obtain ⟨q, hq⟩ := clearAccAgain_eq s
       obtain rfl := (Host.Outcome.next.inj h).symm.trans hq
       rfl)

theorem execWord_pend_none {w : InsnWord} {s t : State} (hw : w.slotsOk = true)
    (h : execWord w s = .next t)
    (hc : w.alu2 ∉ ([.compBrMr, .compBrLr, .compAccMr, .compAccLr] : List Instr)) :
    t.pend = none := by
  obtain ⟨hi1, hi2, -⟩ := slotsOk_iff.mp hw
  obtain ⟨s1, s2, k, h1, h2, -, -, rfl, -, -, -, -, hpend, -⟩ := execWord_sched hw h
  have hs1 : s1.sched.pend = none := by rw [alu1_sched hi1 h1]; rfl
  rw [settle_pend, ← hs1, ← alu2_keeps_pend hi2 hc h2]
  exact hpend

/-- Settles O56: the lists of the statement are the operations that can write the register, each in
its field. -/
theorem registerWriters : Obligations.RegisterWriters := by
  intro w s t hw h
  have alu1 : ∀ {l : List Instr} {n : Fin 5}, l.all (·.slot == .alu1) = true → fieldOp w n ∈ l →
      w.alu1 ∈ l := fieldOp_mem (m := 0) hw
  have alu2 : ∀ {l : List Instr} {n : Fin 5}, l.all (·.slot == .alu2) = true → fieldOp w n ∈ l →
      w.alu2 ∈ l := fieldOp_mem (m := 1) hw
  have mop1 : ∀ {l : List Instr} {n : Fin 5}, l.all (·.slot == .mop1) = true → fieldOp w n ∈ l →
      w.mop1 ∈ l := fieldOp_mem (m := 2) hw
  have mop2 : ∀ {l : List Instr} {n : Fin 5}, l.all (·.slot == .mop2) = true → fieldOp w n ∈ l →
      w.mop2 ∈ l := fieldOp_mem (m := 3) hw
  refine ⟨fun h1 => ?br, fun h1 => ?lr, fun h1 h2 => ?acc, fun h2 h3 => ?b, fun h2 h3 h4 => ?l,
    fun h2 h3 => ?md, fun h2 h3 h4 => ?mc, fun k h2 => ?out, execWord_acpb h,
    execWord_pend_none hw h⟩
  case br => exact execWord_kept (r := .br) h fun n hn => h1 (alu1 rfl hn)
  case lr => exact execWord_kept (r := .lr) h fun n hn => h1 (alu1 rfl hn)
  case acc =>
    refine execWord_kept (r := .acc) h fun n hn => ?_
    obtain hn | hn := hn
    · exact h1 (List.mem_singleton.mp (alu1 rfl hn))
    · exact h2 (alu2 rfl hn)
  case b =>
    refine execWord_kept (r := .b) h fun n hn => ?_
    obtain hn | ⟨a, hn⟩ := hn
    · exact h2 (alu2 rfl hn)
    · exact h3 a (mop1 (by cases s.acpb <;> rfl) hn)
  case l =>
    refine execWord_kept (r := .l) h fun n hn => ?_
    obtain hn | ⟨a, hn⟩ | ⟨a, hn⟩ := hn
    · exact h2 (alu2 rfl hn)
    · exact h3 a (mop1 (by cases s.acpb <;> rfl) hn)
    · exact h4 a (List.mem_singleton.mp (mop2 rfl hn))
  case md =>
    refine execWord_kept (r := .md) h fun n hn => ?_
    obtain hn | ⟨a, hn⟩ := hn
    · exact h2 (alu2 rfl hn)
    · exact h3 a (mop1 (by cases s.acpb <;> rfl) hn)
  case mc =>
    refine execWord_kept (r := .mc) h fun n hn => ?_
    obtain hn | ⟨a, hn⟩ | ⟨a, hn⟩ := hn
    · exact h2 (alu2 rfl hn)
    · exact h3 a (List.mem_singleton.mp (mop1 rfl hn))
    · exact h4 a (mop2 (by cases s.acpb <;> rfl) hn)
  case out => exact execWord_kept (r := .out k) h fun n hn => h2 (alu2 (outputForms_slot k) hn)

/-! ### The delay timer -/

/-- An ADD to DLYI schedules its write. -/
theorem alu2_dlyi {i : Instr} {s t : State}
    (hi : i ∈ ([.addBrMrNoneDlyi, .addBrLrNoneDlyi, .addAccMrNoneDlyi, .addAccLrNoneDlyi] :
      List Instr)) (h : exec i s = .next t) : ∃ v, t.sched.dlyi = some v := by
  simp only [List.mem_cons, List.not_mem_nil, or_false] at hi
  obtain rfl | rfl | rfl | rfl := hi <;> exact ⟨_, by rw [addTo_next h]; rfl⟩

/-- The words that the checks of the whole word let pass. -/
theorem wordFault_eq_none_iff {w : InsnWord} {s : State} :
    wordFault w s = none ↔ (s.pipe = none ∨ acting w = .nops) ∧ pcFormBad w = false ∧
      busConflict w = false ∧ delayPointerMissing w = false := by
  have check : ∀ (c : Bool) (f : Fault) (x : Option Fault),
      (if c then some f else x) = none ↔ c = false ∧ x = none := fun c _ _ => by cases c <;> simp
  simp only [wordFault, check]
  cases s.pipe <;> simp

theorem eq_dlyptr_of_isDlyptr {i : Instr} (h : isDlyptr i = true) : ∃ ptr, i = .dlyptr ptr := by
  unfold isDlyptr at h
  split at h
  · exact ⟨_, rfl⟩
  · cases h

/-- A word that passes the checks writes DLYI beside a DLYPTR only (R283). -/
theorem dlyptr_of_dlyi {w : InsnWord} {s : State} (h : wordFault w s = none)
    (hi : w.alu2 ∈ ([.addBrMrNoneDlyi, .addBrLrNoneDlyi, .addAccMrNoneDlyi, .addAccLrNoneDlyi] :
      List Instr)) : ∃ ptr, w.mop3 = .dlyptr ptr := by
  have hwrites : writesDlyi w.alu2 = true := by
    simp only [List.mem_cons, List.not_mem_nil, or_false] at hi
    obtain e | e | e | e := hi <;> rw [e] <;> rfl
  obtain ⟨-, -, -, hmissing⟩ := wordFault_eq_none_iff.mp h
  exact eq_dlyptr_of_isDlyptr (by simpa [delayPointerMissing, hwrites] using hmissing)

/-- What a word with a DLYI write schedules: the value, and the pointer of its DLYPTR. -/
theorem execFields_dlyi {w : InsnWord} {s t : State} {ptr : Addr} (hw : w.slotsOk = true)
    (hi : w.alu2 ∈ ([.addBrMrNoneDlyi, .addBrLrNoneDlyi, .addAccMrNoneDlyi, .addAccLrNoneDlyi] :
      List Instr)) (hptr : w.mop3 = .dlyptr ptr) (h : execFields w s = .next t) :
    t.sched.dlyPtr = some ptr ∧ ∃ v, t.sched.dlyi = some v := by
  obtain ⟨-, -, hi3, hi4, -⟩ := slotsOk_iff.mp hw
  obtain ⟨s1, s2, s3, s4, -, h2, h3, h4, h5⟩ := execFields_next h
  rw [hptr] at h5
  obtain rfl := Host.Outcome.next.inj h5
  obtain ⟨v, hv⟩ := alu2_dlyi hi h2
  refine ⟨rfl, v, ?_⟩
  rw [← hv]
  show s4.sched.dlyi = s2.sched.dlyi
  rw [mop2_sched hi4 h4, mop1_sched hi3 h3]

/-- Settles O60: the end of the clock starts DLY_AGE and hands the delay memory its pair exactly
when a DLYI write is scheduled. -/
theorem delayTimer : Obligations.DelayTimer := by
  intro w s t hw h
  obtain ⟨hfault, -, k, hk, -, rfl⟩ := execWord_next h
  refine ⟨fun hi => ?_, fun hi => ?_⟩
  · obtain ⟨ptr, hptr⟩ := dlyptr_of_dlyi hfault hi
    obtain ⟨hp, v, hv⟩ := execFields_dlyi hw hi hptr hk
    simp only at hp hv
    refine ⟨?_, ptr, hptr, ?_, ?_⟩ <;> simp [nextDlyAge, nextDelayLog, hv, hp]
  · have hd : k.dlyi = none := by
      have hno : k.writes .dlyi = false := execFields_no_write (r := .dlyi) hk fun n hn =>
        hi (fieldOp_mem (m := 1) hw rfl hn)
      simpa [Sched.writes] using hno
    simp [nextDlyAge, nextDelayLog, hd]

end Sys2Proof.Machine

/-! Proofs of the statements of 10_state.md, continued: the host's memory writes (O7) and its
registers (O8). -/

namespace Sys2Proof.Machine

/-! ### The write port -/

/-- A decoded word leaves the write port to the host exactly when its MOP3 code is 0000 (R86,
R113). -/
theorem decodeMop3_portFree {cfg : Config} {alu1 alu2 i : Instr} {code : BitVec 4} {ad3 : Addr}
    (h : decodeMop3 cfg alu1 alu2 code ad3 = some i) : portFree cfg i = true ↔ code = 0#4 := by
  by_cases hc : code = 0#4
  · subst hc
    simp only [decodeMop3] at h
    split at h
    · rename_i hpc
      cases h
      simp_all [portFree]
    · split at h <;> cases h <;> simp [portFree]
  · refine iff_of_false ?_ hc
    unfold decodeMop3 at h
    split at h
    · exact absurd rfl hc
    case h_10 =>
      split at h
      · rename_i hpc
        cases h
        simpa [portFree, ← hpc] using hc
      · split at h <;> cases h
        simp [portFree]
    all_goals
      cases h
      simp [portFree]

/-- Every store keeps the write port. -/
theorem portFree_of_store {cfg : Config} {i : Instr} (h : storeTarget i ≠ none) :
    portFree cfg i = false := by
  cases i <;> first | rfl | exact absurd rfl h

theorem decode_mop3 {cfg : Config} {bits : InsnBits} {w : InsnWord} (h : decode cfg bits = .ok w) :
    decodeMop3 cfg w.alu1 w.alu2 (fieldsOf bits).mop3 (fieldsOf bits).ad3 = some w.mop3 := by
  unfold decode decodeFields at h
  repeat' split at h
  all_goals cases h
  assumption

/-! ### The host's memory writes -/

theorem hostWriteData_of_storable {a : Addr} {v : Data} {s : State} (h : DataStorable a s) :
    hostWriteData a v s =
      .next { s with data := Memory.write s.data a.toNat v, lastStore := some (.data, a) } := by
  obtain ⟨hp, ha⟩ := h
  obtain ⟨h1, h2, h3, h4⟩ := plainAddr_iff.mp hp
  simp [hostWriteData, h1, h2, h3, h4, Nat.not_le.mpr ha]

theorem hostWriteCoef_of_lt {a : Addr} {v : Coef} {s : State} (h : a.toNat < s.cfg.coefWords) :
    hostWriteCoef a v s =
      .next { s with coef := Memory.write s.coef a.toNat v, lastStore := some (.coef, a) } := by
  simp [hostWriteCoef, Nat.not_le.mpr h]

/-- A waiting write of a plain DATA word lands where the port is free (R86). -/
theorem hostTurn_data_free {a : Addr} {rest : List HostAction} {s : State}
    (hq : s.hostQueue = .writeData a :: rest) (h : DataStorable a s) :
    hostTurn true s = .next { s with
      data := Memory.write s.data a.toNat (busData s.esfr), lastStore := some (.data, a),
      hostQueue := rest } := by
  simp only [hostTurn, hq]
  exact hostWriteData_of_storable (s := { s with hostQueue := rest }) h

theorem hostTurn_coef_free {a : Addr} {rest : List HostAction} {s : State}
    (hq : s.hostQueue = .writeCoef a :: rest) (h : a.toNat < s.cfg.coefWords) :
    hostTurn true s = .next { s with
      coef := Memory.write s.coef a.toNat (busCoef s.esfr), lastStore := some (.coef, a),
      hostQueue := rest } := by
  simp only [hostTurn, hq]
  exact hostWriteCoef_of_lt (s := { s with hostQueue := rest }) h

/-- A memory write waits while the port is taken. -/
theorem hostTurn_data_taken {a : Addr} {rest : List HostAction} {s : State}
    (hq : s.hostQueue = .writeData a :: rest) : hostTurn false s = .next s := by
  simp [hostTurn, hq]

theorem hostTurn_coef_taken {a : Addr} {rest : List HostAction} {s : State}
    (hq : s.hostQueue = .writeCoef a :: rest) : hostTurn false s = .next s := by
  simp [hostTurn, hq]

theorem hostTurn_data_refused {a : Addr} {rest : List HostAction} {s : State}
    (hq : s.hostQueue = .writeData a :: rest)
    (h : a = 0x2BE ∨ a = 0x301 ∨ (a ≠ 0x2BC ∧ a ≠ 0x2BD ∧ s.cfg.dataWords ≤ a.toNat)) :
    hostTurn true s = .refused (.hostWriteNotDescribed .data a) := by
  simp only [hostTurn, hq, if_true]
  obtain rfl | rfl | ⟨h1, h2, h3⟩ := h
  · rfl
  · rfl
  · have h1 : a ≠ seedAddr := h1
    have h2 : a ≠ pcStartAddr := h2
    simp [hostWriteData, h1, h2, h3]

theorem hostTurn_coef_refused {a : Addr} {rest : List HostAction} {s : State}
    (hq : s.hostQueue = .writeCoef a :: rest) (h : s.cfg.coefWords ≤ a.toNat) :
    hostTurn true s = .refused (.hostWriteNotDescribed .coef a) := by
  simp [hostTurn, hq, hostWriteCoef, h]

/-- The step of a running machine whose word completes is the host's turn, on a port free exactly
when the word's MOP3 code is 0000. -/
theorem step_of_execWord {s t : State} {w : InsnWord} {bits : InsnBits}
    (hb : s.frameClock < s.cfg.cyclesPerFrame) (hr : s.run = .running)
    (hp : s.pc < s.cfg.imemWords) (hm : Memory.read s.imem s.pc = some bits)
    (hd : decode s.cfg bits = .ok w) (ht : execWord w s = .next t) :
    step s = hostTurn (decide ((fieldsOf bits).mop3 = 0#4)) t := by
  have hport : portFree s.cfg w.mop3 = decide ((fieldsOf bits).mop3 = 0#4) := by
    rw [Bool.eq_iff_iff, decide_eq_true_iff]
    exact decodeMop3_portFree (decode_mop3 hd)
  rw [step_running hb hr (fetchDecode_of hp hm hd), ht, andThen_next, hport]

/-- Settles O7: a word keeps the queue, the parameters and the host's registers, so that the host's
turn after it sees those of the state before. -/
theorem hostWrites : Obligations.HostWrites := by
  intro s a rest hb
  refine ⟨fun t w bits hr hp hm hd ht => ?_, fun hr => ⟨fun hq h => ?_, fun hq h => ?_⟩,
    fun free f => hostTurn_ne_fault free s f, hostTurn_data_refused, hostTurn_coef_refused⟩
  · have hstep := step_of_execWord hb hr hp hm hd ht
    obtain ⟨-, -, k, -, -, rfl⟩ := execWord_next ht
    refine ⟨fun hst hcode => ?_, fun hq h => ⟨fun hc => ?_, fun hc => ?_⟩,
      fun hq h => ⟨fun hc => ?_, fun hc => ?_⟩⟩
    · have hfree := (decodeMop3_portFree (decode_mop3 hd)).mpr hcode
      simp [portFree_of_store hst] at hfree
    · rw [hstep, decide_eq_true hc]
      exact hostTurn_data_free hq h
    · rw [hstep, decide_eq_false hc]
      exact hostTurn_data_taken hq
    · rw [hstep, decide_eq_true hc]
      exact hostTurn_coef_free hq h
    · rw [hstep, decide_eq_false hc]
      exact hostTurn_coef_taken hq
  · refine ⟨_, (step_stopped hb hr).trans (hostTurn_data_free hq h), fun x => ?_,
      rfl, rfl, rfl, rfl⟩
    exact Memory.read_write _ _ _ _
  · refine ⟨_, (step_stopped hb hr).trans (hostTurn_coef_free hq h), fun x => ?_,
      rfl, rfl, rfl, rfl⟩
    exact Memory.read_write _ _ _ _

/-! ### The host's registers -/

/-- Of what the host reads back, the bits that the register holds. -/
theorem esfrRead_and_mask (q : EsfrName) (s : State) :
    esfrRead q s &&& esfrMask q = esfrHeld q s.esfr &&& esfrMask q := by
  unfold esfrRead
  ext i
  cases h : (esfrMask q)[i] <;> simp [h]

/-- The low bits of a byte, kept in a register of that width. -/
theorem setWidth_and_low (n : Nat) (v : BitVec 8) :
    (v.setWidth n).setWidth 8 &&& (BitVec.allOnes n).setWidth 8 =
      v &&& (BitVec.allOnes n).setWidth 8 := by
  ext i hi
  by_cases hn : i < n <;> simp [hn, BitVec.getLsbD_eq_getElem hi]

/-- A mode bit is the lowest bit of its byte (R55). -/
theorem ofBool_and_low (v : BitVec 8) :
    (BitVec.ofBool (v.getLsbD 0)).setWidth 8 &&& (BitVec.allOnes 1).setWidth 8 =
      v &&& (BitVec.allOnes 1).setWidth 8 := by
  rw [← BitVec.setWidth_one]
  exact setWidth_and_low 1 v

/-- A written register holds the byte's bits that it has a place for. -/
theorem esfrHeld_write_same (r : EsfrName) (v : BitVec 8) (e : Esfr) :
    esfrHeld r (esfrWrite r v e) &&& esfrMask r = v &&& esfrMask r := by
  cases r <;> first
    | rfl
    | exact setWidth_and_low 2 v
    | exact setWidth_and_low 3 v
    | exact setWidth_and_low 4 v
    | exact setWidth_and_low 6 v
    | exact ofBool_and_low v

theorem esfrHeld_write_other {r q : EsfrName} (h : q ≠ r) (v : BitVec 8) (e : Esfr) :
    esfrHeld q (esfrWrite r v e) = esfrHeld q e := by
  cases q <;> cases r <;> first | rfl | exact absurd rfl h

theorem toNat_append_eq_add {m n : Nat} (x : BitVec m) (y : BitVec n) :
    (x ++ y).toNat = 2 ^ n * x.toNat + y.toNat := by
  rw [BitVec.toNat_append, ← Nat.shiftLeft_add_eq_or_of_lt y.isLt, Nat.shiftLeft_eq, Nat.mul_comm]

/-- The lanes of `Data_to_DSP_o` stand in address order (R53). -/
theorem dataToDsp_toNat (e : Esfr) : (dataToDsp e).toNat = e.toDsp0.toNat + 2 ^ 8 * e.toDsp1.toNat +
    2 ^ 16 * e.toDsp2.toNat + 2 ^ 24 * e.toDsp3.toNat + 2 ^ 32 * e.toDsp4.toNat +
    2 ^ 40 * e.toDsp5.toNat + 2 ^ 48 * e.toDsp6.toNat := by
  simp only [dataToDsp, toNat_append_eq_add]
  omega

theorem busData_toNat (e : Esfr) : (busData e).toNat = e.toDsp0.toNat + 2 ^ 8 * e.toDsp1.toNat +
    2 ^ 16 * e.toDsp2.toNat + 2 ^ 24 * e.toDsp3.toNat + 2 ^ 32 * e.toDsp4.toNat +
    2 ^ 40 * e.toDsp5.toNat := by
  rw [busData, BitVec.toNat_setWidth, dataToDsp_toNat]
  omega

theorem busCoef_toNat (e : Esfr) : (busCoef e).toNat = e.toDsp0.toNat + 2 ^ 8 * e.toDsp1.toNat +
    2 ^ 16 * e.toDsp2.toNat + 2 ^ 24 * (e.toDsp3.toNat % 16) := by
  rw [busCoef, BitVec.toNat_setWidth, dataToDsp_toNat]
  omega

theorem microAddr_toNat (e : Esfr) :
    (microAddr e).toNat = e.addrLo.toNat + 2 ^ 8 * e.addrHi.toNat := by
  rw [microAddr, toNat_append_eq_add, Nat.add_comm]

/-- Only the VUB's six registers reach the VUB (R55, R312). -/
theorem vubRegs_esfrWrite {r : EsfrName} (v : BitVec 8) (e : Esfr)
    (h : r ∉ ([.a6, .a7, .a9, .aa, .ab, .ac] : List EsfrName)) :
    vubRegs (esfrWrite r v e) = vubRegs e := by
  cases r <;> first | rfl | exact absurd (List.mem_of_elem_eq_true rfl) h

/-- Settles O8: the host's turn takes the written register, and the reads, the lanes and the VUB see
each its own part of the registers. -/
theorem hostRegisters : Obligations.HostRegisters := by
  refine ⟨fun s t w r v rest h hq => ?_, fun r q v s => ?_, fun e => ?_, fun s v => ⟨rfl, rfl⟩,
    fun s r v hr => ?_⟩
  · obtain ⟨-, -, k, -, -, rfl⟩ := execWord_next h
    rw [h, andThen_next]
    simp [hostTurn, hq]
  · rw [esfrRead_and_mask, esfrRead_and_mask]
    split
    · rename_i hqr
      exact hqr ▸ esfrHeld_write_same q v s.esfr
    · rename_i hqr
      exact congrArg (· &&& esfrMask q) (esfrHeld_write_other hqr v s.esfr)
  · exact ⟨dataToDsp_toNat e, busData_toNat e, busCoef_toNat e, microAddr_toNat e⟩
  · unfold nextVol
    rw [vubRegs_esfrWrite v s.esfr hr]

end Sys2Proof.Machine

/-! Proofs of the statements of 20_memory.md: the clock of a word with one load or one store, the
loads from DATA RAM (O35) and of the LFSR (O38). -/

namespace Sys2Proof.Machine

/-! ### Words with one operation -/

/-- The clock that does nothing, with the writes of `k` landed: what a word leaves that finds the
pipe empty and schedules `k` without a DLYI write. -/
def tickedWith (k : Sched) (s : State) : State :=
  { ticked s with
    b := k.b.getD s.b, l := k.l.getD s.l, md := k.md.getD s.md, mc := k.mc.getD s.mc
    br := k.br.getD s.br, lr := k.lr.getD s.lr, acc := k.acc.getD s.acc
    outs := match k.out with
      | none => s.outs
      | some (i, v) => s.outs.set i v
    pend := k.pend, pipe := k.pipe.or s.pipe, lastStore := k.store.map storeAddress
    data := nextData { s with sched := k }, coef := nextCoef { s with sched := k }
    dreg0 := nextDreg0 { s with sched := k } }

theorem wordFault_wordMop1 {s : State} (hp : s.pipe = none) (i : Instr) :
    wordFault (wordMop1 i) s = none :=
  wordFault_of_form hp rfl (by cases i <;> rfl) rfl

theorem wordFault_wordMop3 {s : State} {i : Instr} (hp : s.pipe = none)
    (hi : isPcaddr i = false) : wordFault (wordMop3 i) s = none :=
  wordFault_of_form hp hi rfl rfl

/-- A word with only a MOP1 operation completes with what that operation schedules. -/
theorem execWord_wordMop1 {i : Instr} {s : State} {k : Sched} (hp : s.pipe = none)
    (hu : unwrittenFault (wordMop1 i) s = none)
    (hexec : exec i (issue (wordMop1 i) s) = .next { s with sched := k })
    (hc : k.conflict = none) (hd : k.dlyi = none) :
    execWord (wordMop1 i) s = .next (tickedWith k s) :=
  execWord_ticked hp (wordFault_wordMop1 hp i) hu (execFields_of rfl rfl hexec rfl rfl) hc hd

/-- A word with only a MOP3 operation but PCADDR completes with what that operation schedules. -/
theorem execWord_wordMop3 {i : Instr} {s : State} {k : Sched} (hp : s.pipe = none)
    (hi : isPcaddr i = false)
    (hexec : exec i (issue (wordMop3 i) s) = .next { s with sched := k })
    (hc : k.conflict = none) (hd : k.dlyi = none) :
    execWord (wordMop3 i) s = .next (tickedWith k s) :=
  execWord_ticked hp (wordFault_wordMop3 hp hi) rfl (execFields_of rfl rfl rfl rfl hexec) hc hd

/-! ### Loads that go through -/

theorem loadIf_of_true {cond : Bool} (load : State → Result) (s : State) (h : cond = true) :
    loadIf cond load s = load s := by
  simp [loadIf, h]

/-- What a load reads, it reads in a word that stores nothing, whatever else is scheduled. -/
theorem memReadData_of_no_store {a : Addr} {v : Data} {s t : State}
    (h : memReadData a s = .ok v) (ht : SchedOnly s t) (hstore : t.sched.storeTo = none) :
    memReadData a t = .ok v := by
  obtain ⟨rfl, rfl⟩ | hl := memReadData_ok_iff.mp h
  · obtain ⟨k, rfl⟩ := ht
    rfl
  · exact hl.read ht hstore

/-- A word that can be read is not one that carries the mark unwritten. -/
theorem dataUnwritten_of_read {a : Addr} {v : Data} {s : State} (h : memReadData a s = .ok v) :
    dataUnwritten a s = false := by
  obtain ⟨rfl, -⟩ | ⟨-, -, -, -, hr⟩ := memReadData_ok_iff.mp h
  · rfl
  · simp [dataUnwritten, hr]

theorem unwrittenFault_of_filters {w : InsnWord} {s : State}
    (h1 : (mop1Reads s.acpb w.mop1).filter (dataUnwritten · s) = none)
    (h2 : (mop2Reads s.acpb w.mop2).filter (coefUnwritten · s) = none) :
    unwrittenFault w s = none := by
  simp only [unwrittenFault, h1, h2]

theorem mop1Reads_of_mem_dataLoads {flag : Bool} {a : Addr} {p : Instr × (Data → State → State)}
    (hp : p ∈ dataLoads flag a) : mop1Reads flag p.1 = some a := by
  simp only [dataLoads, List.mem_cons, List.not_mem_nil, or_false] at hp
  obtain rfl | rfl | rfl | rfl | rfl | rfl | rfl | rfl := hp <;> cases flag <;> rfl

/-- A load of DATA memory that can read its word gives it to its destination. -/
theorem execWord_dataLoad {s : State} {a : Addr} {v : Data} {p : Instr × (Data → State → State)}
    (hp : s.pipe = none) (hread : memReadData a s = .ok v) (hmem : p ∈ dataLoads s.acpb a) :
    execWord (wordMop1 p.1) s = .next (p.2 v (ticked s)) := by
  have hu : unwrittenFault (wordMop1 p.1) s = none := by
    refine unwrittenFault_of_filters (Option.filter_eq_none_iff.mpr fun b hb => ?_) rfl
    obtain rfl := Option.some.inj ((mop1Reads_of_mem_dataLoads hmem).symm.trans hb)
    simp [dataUnwritten_of_read hread]
  have hr := memReadData_of_no_store hread (issue_schedOnly (wordMop1 p.1) s) rfl
  have word : ∀ {dest k}, (∀ u : State, u.acpb = s.acpb → exec p.1 u = loadData a dest u) →
      dest v (issue (wordMop1 p.1) s) = { s with sched := k } →
      k.conflict = none → k.dlyi = none →
      execWord (wordMop1 p.1) s = .next (tickedWith k s) := fun he hd =>
    execWord_wordMop1 hp hu <|
      (he (issue (wordMop1 p.1) s) rfl).trans ((loadData_of_ok hr).trans (congrArg _ hd))
  simp only [dataLoads, List.mem_cons, List.not_mem_nil, or_false] at hmem
  obtain rfl | rfl | rfl | rfl | rfl | rfl | rfl | rfl := hmem
  · exact word (k := { Sched.empty with md := some v }) (fun _ _ => rfl) rfl rfl rfl
  · exact word (k := { Sched.empty with b := some v }) (fun _ _ => rfl) rfl rfl rfl
  · exact word (k := { Sched.empty with l := some v }) (fun _ _ => rfl) rfl rfl rfl
  · exact word (k := { Sched.empty with b := some v, l := some v }) (fun _ _ => rfl) rfl rfl rfl
  · exact word (k := { Sched.empty with mc := some (v.setWidth 28) }) (fun _ _ => rfl) rfl rfl rfl
  · exact word (dest := setMd) (k := { Sched.empty with md := some v })
      (fun _ e => e ▸ exec_taken rfl rfl) rfl rfl rfl
  · exact word (dest := setB) (k := { Sched.empty with b := some v })
      (fun _ e => e ▸ exec_taken rfl rfl) rfl rfl rfl
  · exact word (dest := setL) (k := { Sched.empty with l := some v })
      (fun _ e => e ▸ exec_taken rfl rfl) rfl rfl rfl

/-- Settles O35: a word that may be loaded is what the read gives. -/
theorem loadsFromData : Obligations.LoadsFromData := by
  intro s a v h
  have hread := memReadData_loadable h
  refine ⟨loadData_of_ok hread, loadData_of_ok hread, loadData_of_ok hread, loadData_of_ok hread,
    loadData_of_ok hread, fun hp => ?_⟩
  have word : ∀ p ∈ dataLoads s.acpb a, execWord (wordMop1 p.1) s = .next (p.2 v (ticked s)) :=
    fun _ => execWord_dataLoad hp hread
  simp only [dataLoads, List.forall_mem_cons] at word
  obtain ⟨hmd, hb, hl, hbl, hmc, -⟩ := word
  exact ⟨hmd, hb, hl, hbl, hmc⟩

/-- Settles O38: a read of 0x301 gives LFS in every state. -/
theorem lfsrLoads : Obligations.LfsrLoads := by
  intro s
  have load : ∀ dest, loadData 0x301 dest s = .next (dest s.lfs s) :=
    fun _ => loadData_of_ok (memReadData_lfsr s)
  have taken : ∀ {cond}, cond = true → ∀ dest,
      loadIf cond (loadData 0x301 dest) s = .next (dest s.lfs s) :=
    fun h dest => (loadIf_of_true _ s h).trans (load dest)
  refine ⟨load setB, load setL, load setMd, load setBl, load fun v => setMc (coefOfData v),
    fun h => ?_, fun h => ?_, fun hp => ?_⟩
  · exact ⟨taken h setB, taken h setL, taken h setMd⟩
  · have h := condClear_iff.mpr h
    exact ⟨taken h setB, taken h setL, taken h setMd⟩
  · exact execWord_dataLoad (p := (.ldDataB 0x301, _)) hp (memReadData_lfsr s) (.tail _ (.head _))

end Sys2Proof.Machine

/-! Proofs of the statements of 20_memory.md, continued: the stores (O40, O41, O42), where they stop
(O54), and that nothing else writes a memory (O57). -/

namespace Sys2Proof.Machine

/-! ### What a store stores -/

theorem delayReady_iff {s : State} :
    delayReady s = true ↔ ∃ n, s.dlyAge = some n ∧ dlyLatency ≤ n := by
  cases h : s.dlyAge <;> simp [delayReady, h]

theorem delayReady_eq_false_iff {s : State} :
    delayReady s = false ↔ s.dlyAge = none ∨ ∃ n, s.dlyAge = some n ∧ n < dlyLatency := by
  cases h : s.dlyAge <;> simp [delayReady, h]

/-- A DI store's channel is its address's low three bits (R85). -/
theorem diSource_eq (a : Addr) (s : State) :
    diSource a s = s.di[a.toNat % 8]'(Nat.mod_lt _ (by decide)) := by
  have hch : (a.extractLsb' 0 3).toNat = a.toNat % 8 := by simp [BitVec.extractLsb'_toNat]
  show s.di[(a.extractLsb' 0 3).toNat]'_ = _
  simp only [hch]

/-- A VOL store's value is named by its address's low five bits (D34). -/
theorem volSource_eq (a : Addr) (s : State) :
    volSource a s = if h : a.toNat % 32 < 24 then s.vol[a.toNat % 32]
      else Config.volUnnamed s.now (a.toNat % 32) := by
  have hi : (a.extractLsb' 0 5).toNat = a.toNat % 32 := by simp [BitVec.extractLsb'_toNat]
  simp only [volSource, hi]

/-- A store names a register value of the state before the word. -/
theorem storeSource_schedOnly {s t : State} (h : SchedOnly s t) (i : Instr) :
    storeSource t i = storeSource s i := by
  obtain ⟨k, rfl⟩ := h
  cases i <;> rfl

/-- A store to DATA RAM stores the value it names; DLYO only when it is ready. -/
theorem exec_dataStore {i : Instr} {a : Addr} {s : State} (hi : storeTarget i = some (.data, a))
    (hready : i = .stDlyoData a → delayReady s = true) :
    exec i s = storeData a (storeSource s i) s := by
  cases i <;> cases hi
  case stDlyoData => simp [exec, execStDlyoData, hready rfl, storeSource]
  all_goals rfl

/-- A word's store is the same whatever its other fields have scheduled. -/
theorem exec_dataStore_of_schedOnly {i : Instr} {a : Addr} {v : Data} {s u : State}
    (hi : storeTarget i = some (.data, a)) (hready : i = .stDlyoData a → delayReady s = true)
    (hv : storeSource s i = v) (hu : SchedOnly s u) : exec i u = storeData a v u := by
  rw [← hv, ← storeSource_schedOnly hu]
  obtain ⟨k, rfl⟩ := hu
  exact exec_dataStore hi hready

theorem exec_coefStore {i : Instr} {a : Addr} (hi : storeTarget i = some (.coef, a)) (s : State) :
    exec i s = storeCoef a (storeSource s i) s := by
  cases i <;> cases hi <;> rfl

theorem exec_stDlyo_early {a : Addr} {s : State} (h : delayReady s = false) :
    exec (.stDlyoData a) s = .fault (.delayTooEarly s.dlyAge (siteOf s)) := by
  simp [exec, execStDlyoData, h]

theorem storeCoef_of_lt {a : Addr} {v : Data} {s : State} (h : a.toNat < s.cfg.coefWords) :
    storeCoef a v s = .next (schedStore (.coef a (v.setWidth 28)) s) := by
  simp [storeCoef, Nat.not_le.mpr h]

/-! ### The word of a store -/

/-- A store changes only the memory it goes to and LAST_STORE. -/
theorem execWord_store {i : Instr} {s : State} {q : StoreReq} (hp : s.pipe = none)
    (hi : storeTarget i ≠ none)
    (hexec : ∀ u, SchedOnly s u → exec i u = .next (schedStore q u)) :
    execWord (wordMop3 i) s = .next
      (tickedWith { Sched.empty with store := some q, storeTo := storeTarget i } s) := by
  have hpcaddr : isPcaddr i = false := by
    cases i <;> first | rfl | exact absurd rfl hi
  exact execWord_wordMop3 hp hpcaddr (hexec _ (issue_schedOnly _ s)) rfl rfl

/-- Settles O40: every source is the register value of the state before the word, and the store
lands in the one word it names. -/
theorem storesToData : Obligations.StoresToData := by
  intro s a hs p hmem hdlyo
  obtain ⟨htarget, hsource⟩ : storeTarget p.1 = some (.data, a) ∧ storeSource s p.1 = p.2 := by
    simp only [List.mem_cons, List.not_mem_nil, or_false] at hmem
    obtain rfl | rfl | rfl | rfl | rfl | rfl := hmem
    · exact ⟨rfl, rfl⟩
    · exact ⟨rfl, rfl⟩
    · exact ⟨rfl, rfl⟩
    · exact ⟨rfl, diSource_eq a s⟩
    · exact ⟨rfl, volSource_eq a s⟩
    · exact ⟨rfl, rfl⟩
  have hexec : ∀ u, SchedOnly s u → exec p.1 u = .next (schedStore (.data a p.2) u) := by
    rintro u ⟨k, rfl⟩
    exact (exec_dataStore_of_schedOnly htarget (delayReady_iff.mpr ∘ hdlyo) hsource
      ⟨k, rfl⟩).trans (storeData_of_storable hs)
  refine ⟨hexec s (.refl s), fun hp => ?_⟩
  exact ⟨_, execWord_store hp (by simp [htarget]) hexec, rfl,
    fun _ => Memory.read_write s.data _ _ _⟩

/-- Settles O42: the low 28 bits of the register land in the one word the store names. -/
theorem storesToCoef : Obligations.StoresToCoef := by
  intro s a hs p hmem
  obtain ⟨htarget, hsource⟩ : storeTarget p.1 = some (.coef, a) ∧ storeSource s p.1 = p.2 := by
    simp only [List.mem_cons, List.not_mem_nil, or_false] at hmem
    obtain rfl | rfl | rfl := hmem <;> exact ⟨rfl, rfl⟩
  have hexec : ∀ u, SchedOnly s u →
      exec p.1 u = .next (schedStore (.coef a (p.2.setWidth 28)) u) := by
    rintro u hu
    rw [exec_coefStore htarget, storeSource_schedOnly hu, hsource]
    obtain ⟨k, rfl⟩ := hu
    exact storeCoef_of_lt hs
  refine ⟨hexec s (.refl s), fun hp => ?_⟩
  exact ⟨_, execWord_store hp (by simp [htarget]) hexec, rfl,
    fun _ => Memory.read_write s.coef _ _ _⟩

/-- Settles O41: 0x2BE is DREG0 for a store and no word for a load. -/
theorem storesToDreg0 : Obligations.StoresToDreg0 := by
  intro s
  refine ⟨fun p hmem hdlyo => ?_, fun i hi => ?_⟩
  · obtain ⟨htarget, hsource⟩ :
        storeTarget p.1 = some (.data, 0x2BE) ∧ storeSource s p.1 = p.2 := by
      simp only [List.mem_cons, List.not_mem_nil, or_false] at hmem
      obtain rfl | rfl | rfl | rfl | rfl | rfl := hmem <;> exact ⟨rfl, rfl⟩
    have hexec : ∀ u, SchedOnly s u → exec p.1 u = .next (schedStore (.dreg0 p.2) u) := by
      rintro u hu
      rw [exec_dataStore_of_schedOnly htarget (delayReady_iff.mpr ∘ hdlyo) hsource hu]
      rfl
    exact ⟨hexec s (.refl s), fun hp => execWord_store hp (by simp [htarget]) hexec⟩
  · have stops : ∀ p ∈ dataLoads s.acpb 0x2BE, exec p.1 s = _ :=
      fun p hp => ((loadsThatStop s 0x2BE).1 p hp).1 (.inr (.inr (.inl rfl)))
    simp only [dataLoads, List.forall_mem_cons] at stops
    obtain ⟨hmd, hb, hl, hbl, hmc, -⟩ := stops
    simp only [List.mem_cons, List.not_mem_nil, or_false] at hi
    obtain rfl | rfl | rfl | rfl | rfl := hi
    exacts [hmd, hb, hl, hbl, hmc]

/-! ### Stores that stop -/

theorem storeData_outOfRange {a : Addr} {s : State} (v : Data)
    (h : a = 0x301 ∨ a = 0x2BC ∨ a = 0x2BD ∨ (a ≠ 0x2BE ∧ s.cfg.dataWords ≤ a.toNat)) :
    storeData a v s = .fault (.addressOutOfRange .data a (siteOf s)) := by
  obtain rfl | rfl | rfl | ⟨hne, hpast⟩ := h
  · rfl
  · rfl
  · rfl
  · have hdreg0 : a ≠ dreg0Addr := hne
    simp [storeData, hdreg0, hpast]

theorem storeCoef_outOfRange {a : Addr} {s : State} (v : Data) (h : s.cfg.coefWords ≤ a.toNat) :
    storeCoef a v s = .fault (.addressOutOfRange .coef a (siteOf s)) := by
  simp [storeCoef, h]

/-- Settles O54: a store that names a value stops where the write of its word does, and DLYO names
none before its time. -/
theorem storesThatStop : Obligations.StoresThatStop := by
  intro s a
  refine ⟨fun h => ⟨fun i hi => ?_, fun hready => ?_⟩, fun h i hi => ?_, fun h => ?_⟩
  · simp only [List.mem_cons, List.not_mem_nil, or_false] at hi
    obtain rfl | rfl | rfl | rfl | rfl := hi <;>
      exact (exec_dataStore rfl (by nofun)).trans (storeData_outOfRange _ h)
  · rw [exec_dataStore rfl fun _ => delayReady_iff.mpr hready]
    exact storeData_outOfRange _ h
  · simp only [List.mem_cons, List.not_mem_nil, or_false] at hi
    obtain rfl | rfl | rfl := hi <;>
      exact (exec_coefStore rfl s).trans (storeCoef_outOfRange _ h)
  · exact exec_stDlyo_early (delayReady_eq_false_iff.mpr h)

/-! ### Nothing else writes a memory -/

/-- Where the scheduled store does not go, DATA RAM stays. -/
theorem read_nextData_other {s : State} {x : Nat}
    (h : ∀ a, s.sched.store.map storeAddress = some (.data, a) → x ≠ a.toNat) :
    Memory.read (nextData s) x = Memory.read s.data x := by
  unfold nextData
  split
  · rename_i a v hst
    exact Memory.read_write_other _ _ _ _ (h a (by rw [hst]; rfl))
  · rfl

theorem read_nextCoef_other {s : State} {x : Nat}
    (h : ∀ a, s.sched.store.map storeAddress = some (.coef, a) → x ≠ a.toNat) :
    Memory.read (nextCoef s) x = Memory.read s.coef x := by
  unfold nextCoef
  split
  · rename_i a v hst
    exact Memory.read_write_other _ _ _ _ (h a (by rw [hst]; rfl))
  · rfl

theorem nextDreg0_other {s : State}
    (h : s.sched.store.map storeAddress ≠ some (.data, 0x2BE)) : nextDreg0 s = s.dreg0 := by
  unfold nextDreg0
  split
  · rename_i v hst
    exact absurd (by rw [hst]; rfl) h
  · rfl

/-- Settles O57: the one store that a completed word has scheduled is the one its MOP3 announces. -/
theorem onlyStoresWriteMemory : Obligations.OnlyStoresWriteMemory := by
  intro w s t hw h
  obtain ⟨-, -, k, -, -, -, -, rfl, -, -, -, -, -, -, -, -, hstore⟩ := execWord_sched hw h
  rw [← hstore]
  exact ⟨rfl, fun x hx => read_nextData_other hx, fun x hx => read_nextCoef_other hx,
    fun hx => nextDreg0_other hx, rfl⟩

end Sys2Proof.Machine

/-! Proofs of the statements of 20_memory.md, continued: a store and a load of the same word (O43),
and the PC past the end of the instruction memory (O55). -/

namespace Sys2Proof.Machine

/-! ### A word that stops at its load -/

/-- Of the ALU1 operations only the PC operations can stop. -/
theorem alu1_completes {i : Instr} (hi : i.slot = .alu1) (hpc : isPcOp i = false) (s : State) :
    ∃ t, exec i s = .next t := by
  cases i <;> first
    | (cases hi; done)
    | (cases hpc; done)
    | exact ⟨_, rfl⟩

theorem alu2_completes {i : Instr} (hi : i.slot = .alu2) (s : State) :
    ∃ t, exec i s = .next t := by
  cases i <;> first
    | (cases hi; done)
    | exact ⟨_, rfl⟩

/-- A PC operation stands in a word without loads (R161). -/
theorem isPcOp_of_load {w : InsnWord} {s : State} (h : wordFault w s = none)
    (hload : w.mop1 ≠ .nopMop1 ∨ w.mop2 ≠ .nopMop2) : isPcOp w.alu1 = false := by
  obtain ⟨-, hform, -, -⟩ := wordFault_eq_none_iff.mp h
  by_contra hpc
  have hnops : w.mop1 = .nopMop1 ∧ w.mop2 = .nopMop2 := by simp_all [pcFormBad]
  exact hload.elim (· hnops.1) (· hnops.2)

/-- What the loads of a word see: the state before it, with the word's store announced (R83). -/
def SeenByLoads (w : InsnWord) (s u : State) : Prop :=
  SchedOnly s u ∧ u.sched.storeTo = storeTarget w.mop3

/-- What goes through on the state that the word issues goes through beside other fields. -/
theorem SeenByLoads.exec_next {w : InsnWord} {s u x : State} {i : Instr}
    (h : SeenByLoads w s u) (hx : exec i (issue w s) = .next x) : ∃ y, exec i u = .next y := by
  obtain ⟨⟨k, rfl⟩, hk⟩ := h
  obtain ⟨ws, -, -, hws⟩ := exec_schedules hx
  exact ⟨_, hws k hk⟩

/-- The two ALU fields of a word with a load go through. -/
theorem exec_alus {w : InsnWord} {s : State} (hw : w.slotsOk = true) (h : wordFault w s = none)
    (hload : w.mop1 ≠ .nopMop1 ∨ w.mop2 ≠ .nopMop2) :
    ∃ u v, exec w.alu1 (issue w s) = .next u ∧ exec w.alu2 u = .next v ∧ SeenByLoads w s v := by
  obtain ⟨hi1, hi2, -⟩ := slotsOk_iff.mp hw
  obtain ⟨u, hu⟩ := alu1_completes hi1 (isPcOp_of_load h hload) (issue w s)
  obtain ⟨v, hv⟩ := alu2_completes hi2 u
  refine ⟨u, v, hu, hv, (issue_schedOnly w s).trans ((exec_schedOnly hu).trans
    (exec_schedOnly hv)), ?_⟩
  rw [alu2_sched hi2 hv, alu1_sched hi1 hu]
  rfl

/-- A word stops at a MOP1 load that faults. -/
theorem execWord_of_mop1_fault {w : InsnWord} {s : State} {f : Fault} (hw : w.slotsOk = true)
    (h1 : wordFault w s = none) (h2 : unwrittenFault w s = none) (hload : w.mop1 ≠ .nopMop1)
    (hf : ∀ u, SeenByLoads w s u → exec w.mop1 u = .fault f) : execWord w s = .fault f := by
  obtain ⟨u, v, hu, hv, hseen⟩ := exec_alus hw h1 (.inl hload)
  simp only [execWord_of_checks h1 h2, execFields, hu, hv, hf v hseen, andThen_next,
    andThen_fault]

/-- A word stops at a MOP2 load that faults, if its MOP1 operation does not. -/
theorem execWord_of_mop2_fault {w : InsnWord} {s : State} {f : Fault} (hw : w.slotsOk = true)
    (h1 : wordFault w s = none) (h2 : unwrittenFault w s = none) (hload : w.mop2 ≠ .nopMop2)
    (hmop1 : ∃ x, exec w.mop1 (issue w s) = .next x)
    (hf : ∀ u, SeenByLoads w s u → exec w.mop2 u = .fault f) : execWord w s = .fault f := by
  obtain ⟨u, v, hu, hv, hseen⟩ := exec_alus hw h1 (.inr hload)
  obtain ⟨x, hx⟩ := hmop1
  obtain ⟨y, hy⟩ := hseen.exec_next hx
  obtain ⟨-, -, hi3, -, -⟩ := slotsOk_iff.mp hw
  obtain ⟨ho, hstore⟩ := hseen
  have hseen' : SeenByLoads w s y := by
    refine ⟨ho.trans (exec_schedOnly hy), ?_⟩
    rw [mop1_sched hi3 hy]
    exact hstore
  simp only [execWord_of_checks h1 h2, execFields, hu, hv, hy, hf y hseen', andThen_next,
    andThen_fault]

theorem mop2Reads_of_mem_coefLoads {flag : Bool} {a : Addr} {p : Instr × (Coef → State → State)}
    (hp : p ∈ coefLoads flag a) : mop2Reads flag p.1 = some a := by
  simp only [coefLoads, List.mem_cons, List.not_mem_nil, or_false] at hp
  obtain rfl | rfl | rfl := hp <;> cases flag <;> rfl

/-- A DATA word that the word before or this word stores to stops a load of it (R82, R83). -/
theorem execWord_dataLoad_inFlight {w : InsnWord} {s : State} {a : Addr}
    {p : Instr × (Data → State → State)} (hw : w.slotsOk = true) (ha : DataStorable a s)
    (hst : s.lastStore = some (.data, a) ∨ storeTarget w.mop3 = some (.data, a))
    (hp : p ∈ dataLoads s.acpb a) (hload : w.mop1 = p.1) (h1 : wordFault w s = none)
    (h2 : unwrittenFault w s = none) :
    execWord w s = .fault (.loadAfterStore .data a ⟨s.pc, s.now⟩) := by
  have hnop : w.mop1 ≠ .nopMop1 := by
    intro hnop
    have hreads := mop1Reads_of_mem_dataLoads hp
    rw [← hload, hnop] at hreads
    cases hreads
  refine execWord_of_mop1_fault hw h1 h2 hnop ?_
  rintro u ⟨⟨k, rfl⟩, hk⟩
  obtain ⟨dest, hexec⟩ := exec_of_mem_dataLoads (s := { s with sched := k }) hp
  rw [hload, hexec]
  exact loadData_of_error (memReadData_inFlight ha (hk ▸ hst))

theorem execWord_coefLoad_inFlight {w : InsnWord} {s : State} {a : Addr}
    {p : Instr × (Coef → State → State)} (hw : w.slotsOk = true) (ha : a.toNat < s.cfg.coefWords)
    (hst : s.lastStore = some (.coef, a) ∨ storeTarget w.mop3 = some (.coef, a))
    (hp : p ∈ coefLoads s.acpb a) (hload : w.mop2 = p.1) (h1 : wordFault w s = none)
    (h2 : unwrittenFault w s = none) (hmop1 : ∃ x, exec w.mop1 (issue w s) = .next x) :
    execWord w s = .fault (.loadAfterStore .coef a ⟨s.pc, s.now⟩) := by
  have hnop : w.mop2 ≠ .nopMop2 := by
    intro hnop
    have hreads := mop2Reads_of_mem_coefLoads hp
    rw [← hload, hnop] at hreads
    cases hreads
  refine execWord_of_mop2_fault hw h1 h2 hnop hmop1 ?_
  rintro u ⟨⟨k, rfl⟩, hk⟩
  obtain ⟨dest, hexec⟩ := exec_of_mem_coefLoads (s := { s with sched := k }) hp
  rw [hload, hexec]
  exact loadCoef_of_error (memReadCoef_inFlight ha (hk ▸ hst))

/-! ### What a store leaves -/

/-- A store to DATA RAM that goes through stores the value it names. -/
theorem exec_dataStore_next {i : Instr} {a : Addr} {s t : State}
    (hi : storeTarget i = some (.data, a)) (h : exec i s = .next t) :
    storeData a (storeSource s i) s = .next t := by
  rwa [← exec_dataStore hi]
  rintro rfl
  by_contra hready
  rw [exec_stDlyo_early (by simpa using hready)] at h
  cases h

/-- The MOP3 operation of a completed word, beside the other fields. -/
theorem execWord_mop3 {w : InsnWord} {s t : State} (h : execWord w s = .next t) :
    ∃ u v, SchedOnly s u ∧ exec w.mop3 u = .next v ∧ t = settle v := by
  obtain ⟨-, -, k, hk, -, rfl⟩ := execWord_next h
  obtain ⟨s1, s2, s3, u, h1, h2, h3, h4, h5⟩ := execFields_next hk
  exact ⟨u, _, (issue_schedOnly w s).trans <| (exec_schedOnly h1).trans <|
    (exec_schedOnly h2).trans <| (exec_schedOnly h3).trans (exec_schedOnly h4), h5, rfl⟩

theorem SchedOnly.cfg_eq {s t : State} (h : SchedOnly s t) : t.cfg = s.cfg := by
  obtain ⟨k, rfl⟩ := h
  rfl

/-- A completed word's store to a plain DATA word is there in the next state. -/
theorem execWord_stores_data {w : InsnWord} {s t : State} {a : Addr} (ha : DataStorable a s)
    (hi : storeTarget w.mop3 = some (.data, a)) (h : execWord w s = .next t) :
    Memory.read t.data a.toNat = some (storeSource s w.mop3) := by
  obtain ⟨u, v, hu, hexec, rfl⟩ := execWord_mop3 h
  have hstore := exec_dataStore_next hi hexec
  have ha' : DataStorable a u := ⟨ha.1, hu.cfg_eq ▸ ha.2⟩
  rw [storeSource_schedOnly hu, storeData_of_storable ha'] at hstore
  obtain rfl := Host.Outcome.next.inj hstore
  exact Memory.read_write_same _ _ _

theorem execWord_stores_coef {w : InsnWord} {s t : State} {a : Addr}
    (ha : a.toNat < s.cfg.coefWords) (hi : storeTarget w.mop3 = some (.coef, a))
    (h : execWord w s = .next t) :
    Memory.read t.coef a.toNat = some ((storeSource s w.mop3).setWidth 28) := by
  obtain ⟨u, v, hu, hexec, rfl⟩ := execWord_mop3 h
  rw [exec_coefStore hi, storeSource_schedOnly hu, storeCoef_of_lt (hu.cfg_eq ▸ ha)] at hexec
  obtain rfl := Host.Outcome.next.inj hexec
  exact Memory.read_write_same _ _ _

theorem execWord_sched_empty {w : InsnWord} {s t : State} (h : execWord w s = .next t) :
    t.sched = Sched.empty := by
  obtain ⟨-, -, k, -, -, rfl⟩ := execWord_next h
  rfl

/-- A word that does not store to DATA word `a` leaves it there to be loaded. -/
theorem dataLoadable_after {w : InsnWord} {s t : State} {a : Addr} {v : Data}
    (hw : w.slotsOk = true) (ha : DataStorable a s) (hr : Memory.read s.data a.toNat = some v)
    (h : execWord w s = .next t) (hi : storeTarget w.mop3 ≠ some (.data, a)) :
    DataLoadable a v t := by
  obtain ⟨hplain, hlt⟩ := ha
  obtain ⟨-, hdata, -, -, hlast⟩ := onlyStoresWriteMemory w s t hw h
  refine ⟨hplain, (execWord_keeps_program h).1 ▸ hlt, hlast ▸ hi, ?_, ?_⟩
  · rw [execWord_sched_empty h]
    nofun
  · refine (hdata a.toNat fun b hb e => hi ?_).trans hr
    rw [hb, BitVec.eq_of_toNat_eq e]

theorem coefLoadable_after {w : InsnWord} {s t : State} {a : Addr} {v : Coef}
    (hw : w.slotsOk = true) (ha : a.toNat < s.cfg.coefWords)
    (hr : Memory.read s.coef a.toNat = some v) (h : execWord w s = .next t)
    (hi : storeTarget w.mop3 ≠ some (.coef, a)) : CoefLoadable a v t := by
  obtain ⟨-, -, hcoef, -, hlast⟩ := onlyStoresWriteMemory w s t hw h
  refine ⟨(execWord_keeps_program h).1 ▸ ha, hlast ▸ hi, ?_, ?_⟩
  · rw [execWord_sched_empty h]
    nofun
  · refine (hcoef a.toNat fun b hb e => hi ?_).trans hr
    rw [hb, BitVec.eq_of_toNat_eq e]

/-! ### Loads from COEF RAM -/

theorem wordFault_wordMop2 {s : State} (hp : s.pipe = none) (i : Instr) :
    wordFault (wordMop2 i) s = none :=
  wordFault_of_form hp rfl rfl rfl

/-- A word with only a MOP2 operation completes with what that operation schedules. -/
theorem execWord_wordMop2 {i : Instr} {s : State} {k : Sched} (hp : s.pipe = none)
    (hu : unwrittenFault (wordMop2 i) s = none)
    (hexec : exec i (issue (wordMop2 i) s) = .next { s with sched := k })
    (hc : k.conflict = none) (hd : k.dlyi = none) :
    execWord (wordMop2 i) s = .next (tickedWith k s) :=
  execWord_ticked hp (wordFault_wordMop2 hp i) hu (execFields_of rfl rfl rfl hexec rfl) hc hd

/-- A load of a COEF word that may be loaded gives it to its destination. -/
theorem execWord_coefLoad {s : State} {a : Addr} {c : Coef} {p : Instr × (Coef → State → State)}
    (hp : s.pipe = none) (hl : CoefLoadable a c s) (hmem : p ∈ coefLoads s.acpb a) :
    execWord (wordMop2 p.1) s = .next (p.2 c (ticked s)) := by
  have hu : unwrittenFault (wordMop2 p.1) s = none := by
    refine unwrittenFault_of_reads nofun fun b hb => ?_
    obtain rfl := Option.some.inj ((mop2Reads_of_mem_coefLoads hmem).symm.trans hb)
    exact ⟨c, hl⟩
  have hr := hl.read (issue_schedOnly (wordMop2 p.1) s) rfl
  have word : ∀ {dest k}, (∀ u : State, u.acpb = s.acpb → exec p.1 u = loadCoef a dest u) →
      dest c (issue (wordMop2 p.1) s) = { s with sched := k } →
      k.conflict = none → k.dlyi = none →
      execWord (wordMop2 p.1) s = .next (tickedWith k s) := fun he hd =>
    execWord_wordMop2 hp hu <|
      (he (issue (wordMop2 p.1) s) rfl).trans ((loadCoef_of_ok hr).trans (congrArg _ hd))
  simp only [coefLoads, List.mem_cons, List.not_mem_nil, or_false] at hmem
  obtain rfl | rfl | rfl := hmem
  · exact word (k := { Sched.empty with mc := some c }) (fun _ _ => rfl) rfl rfl rfl
  · exact word (k := { Sched.empty with l := some (dataOfCoef c) }) (fun _ _ => rfl) rfl rfl rfl
  · exact word (dest := setMc) (k := { Sched.empty with mc := some c })
      (fun _ e => e ▸ exec_taken rfl rfl) rfl rfl rfl

/-- Settles O43: the announced store stops the load beside it, LAST_STORE the one after it, and the
stored word stays until the next. -/
theorem storeThenLoad : Obligations.StoreThenLoad := by
  intro w w' s t u a hw hw'
  refine ⟨fun ha hi => ⟨fun p hp hload h1 h2 => ?_, fun ht => ⟨fun p hp hload h1 h2 => ?_,
      fun hu hi' hpipe p hp => ?_⟩⟩,
    fun ha hi => ⟨fun p hp hload h1 h2 hmop1 => ?_, fun ht => ⟨fun p hp hload h1 h2 hmop1 => ?_,
      fun hu hi' hpipe p hp => ?_⟩⟩⟩
  · exact execWord_dataLoad_inFlight hw ha (.inr hi) hp hload h1 h2
  · obtain ⟨-, -, -, -, hlast⟩ := onlyStoresWriteMemory w s t hw ht
    have ha' : DataStorable a t := ⟨ha.1, (execWord_keeps_program ht).1 ▸ ha.2⟩
    exact execWord_dataLoad_inFlight hw' ha' (.inl (hlast.trans hi)) hp hload h1 h2
  · have ha' : DataStorable a t := ⟨ha.1, (execWord_keeps_program ht).1 ▸ ha.2⟩
    have hl := dataLoadable_after hw' ha' (execWord_stores_data ha hi ht) hu hi'
    exact execWord_dataLoad hpipe (memReadData_loadable hl) hp
  · exact execWord_coefLoad_inFlight hw ha (.inr hi) hp hload h1 h2 hmop1
  · obtain ⟨-, -, -, -, hlast⟩ := onlyStoresWriteMemory w s t hw ht
    exact execWord_coefLoad_inFlight hw' ((execWord_keeps_program ht).1 ▸ ha)
      (.inl (hlast.trans hi)) hp hload h1 h2 hmop1
  · have hl := coefLoadable_after hw' ((execWord_keeps_program ht).1 ▸ ha)
      (execWord_stores_coef ha hi ht) hu hi'
    exact execWord_coefLoad hpipe hl hp

/-! ### The PC past the end of the instruction memory -/

theorem fetchDecode_outOfRange {s : State} (h : s.cfg.imemWords ≤ s.pc) :
    fetchDecode s = .error (.pcOutOfRange (siteOf s)) := by
  simp [fetchDecode, fetch, h]

theorem branchIf_outOfRange {a : Addr} {s : State} (taken : Bool)
    (hown : a.toNat < s.pc ∨ s.pc + 3 < a.toNat) (h : s.cfg.imemWords ≤ a.toNat) :
    branchIf taken a s = .fault (.pcOutOfRange (siteOf s)) := by
  have hout : inOwnWords a s = false := by
    simp only [inOwnWords, Bool.and_eq_false_iff, decide_eq_false_iff_not]
    omega
  simp [branchIf, hout, h]

/-- A word stops at an ALU1 operation that faults. -/
theorem execWord_of_alu1_fault {w : InsnWord} {s : State} {f : Fault}
    (h1 : wordFault w s = none) (h2 : unwrittenFault w s = none)
    (hf : exec w.alu1 (issue w s) = .fault f) : execWord w s = .fault f := by
  simp only [execWord_of_checks h1 h2, execFields, hf, andThen_fault]

/-- The branches of a target, each with the condition under which it is taken (R163 to R165). -/
theorem exec_branch {a : Addr} {i : Instr} (hi : i ∈ ([.jmp a, .boc a, .bnc a] : List Instr))
    (s : State) : ∃ taken, exec i s = branchIf taken a s := by
  simp only [List.mem_cons, List.not_mem_nil, or_false] at hi
  obtain rfl | rfl | rfl := hi <;> exact ⟨_, rfl⟩

theorem pcFormBad_wordBranch {a : Addr} {i : Instr}
    (hi : i ∈ ([.jmp a, .boc a, .bnc a] : List Instr)) : pcFormBad (wordBranch i a) = false := by
  simp only [List.mem_cons, List.not_mem_nil, or_false] at hi
  obtain rfl | rfl | rfl := hi <;>
    simp [pcFormBad, wordBranch, isPcOp, acting, isDlyptr, pcOperandOk]

/-- Settles O55: the fetch past the end faults, and so does a branch that names a target there. -/
theorem pcOutOfRange : Obligations.PcOutOfRange := by
  intro s
  refine ⟨fun hb hr hpc => ?_, fun a ha hown i hi => ⟨?_, fun hp => ?_⟩⟩
  · simp [step, advance, runClock, Nat.not_le.mpr hb, hr, fetchDecode_outOfRange hpc, siteOf]
  · obtain ⟨taken, hexec⟩ := exec_branch hi s
    exact hexec.trans (branchIf_outOfRange taken hown ha)
  · obtain ⟨taken, hexec⟩ := exec_branch hi (issue (wordBranch i a) s)
    exact execWord_of_alu1_fault (wordFault_of_form hp (pcFormBad_wordBranch hi) rfl rfl) rfl
      (hexec.trans (branchIf_outOfRange taken hown ha))

end Sys2Proof.Machine

/-! Proofs of the statements of 30_encoding.md: each field's decoder inverts its encoder, and what
decodes is what has a code (O9, O10); the unassigned codes (O11); fixed words (O12, O13). -/

namespace Sys2Proof.Machine

open Sys2Proof.Laws

/-! ### The fields of a word -/

/-- The fields are cut where they are packed (R100). -/
@[simp] theorem fieldsOf_packFields (f : Fields) : fieldsOf (packFields f) = f := by
  obtain ⟨alu1, alu2, mop1, ad1, mop2, ad2, mop3, ad3⟩ := f
  simp only [fieldsOf, packFields, Fields.mk.injEq]
  refine ⟨?_, ?_, ?_, ?_, ?_, ?_, ?_, ?_⟩
  all_goals
    change BitVec.extractLsb' (n := 5 + 7 + 5 + 10 + 3 + 10 + 4 + 10) _ _ _ = _
    repeat rw [BitVec.extractLsb'_append_eq_of_le (by decide)]
  · exact BitVec.extractLsb'_eq_self
  all_goals exact BitVec.extractLsb'_append_eq_right

/-- The operations of a decoded word, field by field. -/
theorem decode_eq_ok_iff {cfg : Config} {bits : InsnBits} {w : InsnWord} :
    decode cfg bits = .ok w ↔
      decodeAlu1 cfg (fieldsOf bits).alu1 (fieldsOf bits).ad3 = some w.alu1 ∧
      decodeAlu2 cfg (fieldsOf bits).alu2 = some w.alu2 ∧
      decodeMop1 (fieldsOf bits).mop1 (fieldsOf bits).ad1 = some w.mop1 ∧
      decodeMop2 (fieldsOf bits).mop2 (fieldsOf bits).ad2 = some w.mop2 ∧
      decodeMop3 cfg w.alu1 w.alu2 (fieldsOf bits).mop3 (fieldsOf bits).ad3 = some w.mop3 := by
  constructor
  · intro h
    unfold decode decodeFields at h
    repeat' split at h
    all_goals cases h
    exact ⟨‹_›, ‹_›, ‹_›, ‹_›, ‹_›⟩
  · rintro ⟨h1, h2, h3, h4, h5⟩
    simp [decode, decodeFields, h1, h2, h3, h4, h5]

/-! ### The operations that have a code in a field -/

theorem alu1Code_isSome_iff {cfg : Config} {i : Instr} :
    (alu1Code cfg i).isSome = true ↔ i.slot = .alu1 := by
  cases i <;> simp [alu1Code, Instr.slot]

theorem mop1Code_isSome_iff {i : Instr} : (mop1Code i).isSome = true ↔ i.slot = .mop1 := by
  cases i <;> simp [mop1Code, Instr.slot]

theorem mop2Code_isSome_iff {i : Instr} : (mop2Code i).isSome = true ↔ i.slot = .mop2 := by
  cases i <;> simp [mop2Code, Instr.slot]

theorem slot_of_alu2Code {cfg : Config} {i : Instr} {c : BitVec 7}
    (h : alu2Code cfg i = some c) : i.slot = .alu2 := by
  cases i <;> first | rfl | cases h

theorem slot_of_mop3Code {cfg : Config} {i : Instr} {p : BitVec 4 × Addr}
    (h : mop3Code cfg i = some p) : i.slot = .mop3 := by
  cases i <;> first | rfl | cases h

/-! ### Each field's decoder inverts its encoder -/

/-- ALU1 reads an operation from its code, and a branch from its label beside it (R101, R106). -/
theorem decodeAlu1_eq_some_iff {cfg : Config} (hcfg : cfg.wf = true) {c : BitVec 5} {a : Addr}
    {i : Instr} : decodeAlu1 cfg c a = some i ↔
      alu1Code cfg i = some c ∧ pcOperandOk i (.pcaddr a) = true := by
  constructor
  · intro h
    unfold decodeAlu1 at h
    split at h
    case h_23 =>
      split at h <;> cases h
      simp [alu1Code, pcOperandOk, *]
    all_goals
      cases h
      simp [alu1Code, pcOperandOk, isPcaddr]
  · rintro ⟨h, hlabel⟩
    cases i
    case shl2 =>
      cases h
      simp [FieldRoundTrip.decodeAlu1_open cfg _ a (FieldRoundTrip.wf_codes hcfg).1]
    case jmp | boc | bnc =>
      cases h
      simp_all [pcOperandOk, decodeAlu1]
    all_goals cases h <;> rfl

/-- ALU2 reads an operation from its code (R102, R112, R118). -/
theorem decodeAlu2_eq_some_iff {cfg : Config} (hcfg : cfg.wf = true) {c : BitVec 7} {i : Instr} :
    decodeAlu2 cfg c = some i ↔ alu2Code cfg i = some c := by
  constructor
  · intro h
    unfold decodeAlu2 at h
    split at h
    case h_71 =>
      repeat' split at h
      all_goals cases h
      all_goals exact Eq.symm ‹_›
    all_goals
      cases h
      rfl
  · intro h
    cases i
    case clraccAlu2 => exact (FieldRoundTrip.clraccAlu2 cfg hcfg).2.1 c h
    case addAccZeroNoneL => exact (FieldRoundTrip.addAccZeroNoneL cfg hcfg).2.1 c h
    case addAccZeroNoneMd => exact (FieldRoundTrip.addAccZeroNoneMd cfg hcfg).2.1 c h
    all_goals cases h <;> rfl

/-- MOP1 reads an operation from its code and address; NOP stands beside any address (R103,
R108). -/
theorem decodeMop1_eq_some_iff {c : BitVec 5} {a : Addr} {i : Instr} :
    decodeMop1 c a = some i ↔ ∃ b, mop1Code i = some (c, b) ∧ (i ≠ .nopMop1 → b = a) := by
  constructor
  · intro h
    unfold decodeMop1 at h
    split at h <;> cases h <;> exact ⟨_, rfl, by simp⟩
  · rintro ⟨b, h, hb⟩
    cases i
    case nopMop1 =>
      cases h
      rfl
    all_goals cases h
    all_goals
      cases hb nofun
      rfl

/-- MOP2, as MOP1 (R104, R108). -/
theorem decodeMop2_eq_some_iff {c : BitVec 3} {a : Addr} {i : Instr} :
    decodeMop2 c a = some i ↔ ∃ b, mop2Code i = some (c, b) ∧ (i ≠ .nopMop2 → b = a) := by
  constructor
  · intro h
    unfold decodeMop2 at h
    split at h <;> cases h <;> exact ⟨_, rfl, by simp⟩
  · rintro ⟨b, h, hb⟩
    cases i
    case nopMop2 =>
      cases h
      rfl
    all_goals cases h
    all_goals
      cases hb nofun
      rfl

/-- What MOP3 code 0000 stands for in its word (R113). -/
theorem decodeMop3_zero (cfg : Config) (alu1 alu2 : Instr) (a : Addr) :
    decodeMop3 cfg alu1 alu2 0#4 a =
      if isPcOp alu1 && cfg.pcaddrCode == 0#4 then some (.pcaddr a)
      else if writesDlyi alu2 then some (.dlyptr a)
      else some .nopMop3 := rfl

/-- Every other MOP3 code is read without the rest of the word (R105). -/
theorem decodeMop3_eq_some_iff {cfg : Config} (hcfg : cfg.wf = true) {alu1 alu2 : Instr}
    {c : BitVec 4} {a : Addr} {i : Instr} (hc : c ≠ 0#4) :
    decodeMop3 cfg alu1 alu2 c a = some i ↔ mop3Code cfg i = some (c, a) := by
  constructor
  · intro h
    unfold decodeMop3 at h
    split at h
    case h_1 => exact absurd rfl hc
    case h_10 =>
      repeat' split at h
      all_goals cases h
      · simp [mop3Code, *]
      · simp [mop3Code, ← ‹some c = _›]
    all_goals
      cases h
      rfl
  · intro h
    cases i
    case nopMop3 | dlyptr =>
      cases h
      exact absurd rfl hc
    case pcaddr b => exact (FieldRoundTrip.pcaddr b cfg hcfg).2.2.2.2 c a h hc alu1 alu2
    case stVolData b => exact (FieldRoundTrip.stVolData b cfg hcfg).2.2.2.2 c a h hc alu1 alu2
    all_goals cases h <;> rfl

/-- The operations that share MOP3 code 0000 (R113). -/
theorem mop3Code_zero {cfg : Config} (hcfg : cfg.wf = true) {i : Instr} {a : Addr}
    (h : mop3Code cfg i = some (0#4, a)) :
    (i = .nopMop3 ∧ a = 0) ∨ i = .dlyptr a ∨ (i = .pcaddr a ∧ cfg.pcaddrCode = 0#4) := by
  cases i
  case nopMop3 =>
    cases h
    exact .inl ⟨rfl, rfl⟩
  case dlyptr =>
    cases h
    exact .inr (.inl rfl)
  case pcaddr b =>
    simp only [mop3Code, Option.some.injEq, Prod.mk.injEq] at h
    exact .inr (.inr ⟨h.2 ▸ rfl, h.1⟩)
  case stVolData b =>
    obtain ⟨c, hc, hp⟩ := Option.map_eq_some_iff.mp h
    cases hp
    obtain ⟨-, -, -, -, -, -, -, -, hfree, -⟩ := FieldRoundTrip.wf_codes hcfg
    rw [hc] at hfree
    exact absurd hfree (by decide)
  all_goals cases h

/-! ### The words that encode -/

/-- A word acts as itself when its DLYPTR stands beside a DLYI write (R280). -/
theorem acting_eq_self {w : InsnWord}
    (h : isDlyptr w.mop3 = true → writesDlyi w.alu2 = true) : acting w = w := by
  cases hd : isDlyptr w.mop3
  · simp [acting, hd]
  · simp [acting, h hd]

/-- AD3 holds the operand of a store, of a DLYPTR beside a DLYI write and of a PC operation's
PCADDR (R108). -/
theorem ad3Field_eq_operand {w : InsnWord} {c : BitVec 4} (a : Addr)
    (h : c ≠ 0#4 ∨ writesDlyi w.alu2 = true ∨ isPcOp w.alu1 = true) : ad3Field w c a = a := by
  obtain h | h | h := h <;> simp [ad3Field, h]

/-- The bits of a word whose operations have codes. -/
theorem encode_of_codes {cfg : Config} {w : InsnWord} {c1 : BitVec 5} {c2 : BitVec 7}
    {m1 : BitVec 5} {m2 : BitVec 3} {m3 : BitVec 4} {a1 a2 a3 : Addr} (hact : acting w = w)
    (h1 : alu1Code cfg w.alu1 = some c1) (h2 : alu2Code cfg w.alu2 = some c2)
    (h3 : mop1Code w.mop1 = some (m1, a1)) (h4 : mop2Code w.mop2 = some (m2, a2))
    (h5 : mop3Code cfg w.mop3 = some (m3, a3)) :
    encode cfg w = some (packFields ⟨c1, c2, m1, a1, m2, a2, m3, ad3Field w m3 a3⟩) := by
  simp [encode, encodeFields, hact, h1, h2, h3, h4, h5]

/-- What a canonical word is, where its fields depend on each other: DLYPTR and the DLYI write
stand together (R280, R283), PCADDR needs a PC operation, and a PC operation its operand (R161). -/
theorem canonical_fields {cfg : Config} {w : InsnWord} (h : w.canonical cfg = true) :
    w.slotsOk = true ∧ isDlyptr w.mop3 = writesDlyi w.alu2 ∧
    (isPcaddr w.mop3 = true → isPcOp w.alu1 = true) ∧
    (isPcOp w.alu1 = true → w.alu2 = .nopAlu2 ∧ pcOperandOk w.alu1 w.mop3 = true ∧
      (w.mop3 = .nopMop3 → cfg.pcaddrCode ≠ 0#4)) := by
  simp only [InsnWord.canonical, InsnWord.wellFormed, delayPointerMissing, Bool.and_eq_true,
    Bool.not_eq_true'] at h
  obtain ⟨⟨⟨⟨⟨hslots, hform⟩, -⟩, hneed⟩, hdly⟩, hnop⟩ := h
  have hdlyi : isDlyptr w.mop3 = writesDlyi w.alu2 := by
    cases hd : isDlyptr w.mop3 <;> simp_all
  refine ⟨hslots, hdlyi, fun hpcaddr => ?_, fun hpc => ?_⟩
  · by_contra hpc
    simp [pcFormBad, hpc, hpcaddr] at hform
  · rw [pcFormBad, if_pos hpc, acting_eq_self (hdlyi ▸ id)] at hform
    have hcode : w.mop3 = .nopMop3 → cfg.pcaddrCode ≠ 0#4 := by
      rintro hi hcode
      simp [hi, hpc, hcode] at hnop
    simp only [Bool.or_eq_false_iff, bne_eq_false_iff_eq, Bool.not_eq_false'] at hform
    obtain ⟨⟨⟨halu2, -⟩, -⟩, hoperand⟩ := hform
    exact ⟨halu2, hoperand, hcode⟩

/-- The operand of a PC operation is in AD3 (R106, R161). -/
theorem pcOperandOk_of_mop3Code {cfg : Config} {i j : Instr} {c : BitVec 4} {a : Addr}
    (h : pcOperandOk i j = true) (hj : mop3Code cfg j = some (c, a)) :
    pcOperandOk i (.pcaddr a) = true := by
  cases i
  case jmp | boc | bnc =>
    obtain rfl := eq_of_beq h
    cases hj
    exact beq_self_eq_true _
  all_goals rfl

theorem pcOperandOk_of_not_pcOp {i : Instr} (j : Instr) (h : isPcOp i = false) :
    pcOperandOk i j = true := by
  cases i <;> first | rfl | cases h

/-- ALU1 of a canonical word is read back beside the word's own AD3. -/
theorem pcOperandOk_ad3Field {cfg : Config} {w : InsnWord} {c : BitVec 4} {a : Addr}
    (hw : w.canonical cfg = true) (h : mop3Code cfg w.mop3 = some (c, a)) :
    pcOperandOk w.alu1 (.pcaddr (ad3Field w c a)) = true := by
  obtain ⟨-, -, -, hpcop⟩ := canonical_fields hw
  cases hpc : isPcOp w.alu1
  · exact pcOperandOk_of_not_pcOp _ hpc
  · obtain ⟨-, hoperand, -⟩ := hpcop hpc
    rw [ad3Field_eq_operand a (.inr (.inr hpc))]
    exact pcOperandOk_of_mop3Code hoperand h

/-- MOP3 of a canonical word is read back beside the word's own ALU1 and ALU2 (R113). -/
theorem decodeMop3_of_canonical {cfg : Config} (hcfg : cfg.wf = true) {w : InsnWord}
    {c : BitVec 4} {a : Addr} (hw : w.canonical cfg = true)
    (h : mop3Code cfg w.mop3 = some (c, a)) :
    decodeMop3 cfg w.alu1 w.alu2 c (ad3Field w c a) = some w.mop3 := by
  obtain ⟨-, hdly, hpcaddr, hpcop⟩ := canonical_fields hw
  by_cases hc : c = 0#4
  · subst hc
    rw [decodeMop3_zero]
    obtain ⟨hi, rfl⟩ | hi | ⟨hi, hcode⟩ := mop3Code_zero hcfg h <;> rw [hi] at hdly ⊢
    · have hnot : ¬ (isPcOp w.alu1 && cfg.pcaddrCode == 0#4) = true := by
        simp only [Bool.and_eq_true, beq_iff_eq, not_and]
        exact fun hpc => (hpcop hpc).2.2 hi
      rw [if_neg hnot, ← hdly]
      rfl
    · have hpc : isPcOp w.alu1 = false := by
        by_contra hpc
        rw [(hpcop (by simpa using hpc)).1] at hdly
        cases hdly
      rw [ad3Field_eq_operand a (.inr (.inl hdly.symm)), ← hdly]
      simp [hpc, isDlyptr]
    · have hpc : isPcOp w.alu1 = true := hpcaddr (by rw [hi]; rfl)
      rw [ad3Field_eq_operand a (.inr (.inr hpc))]
      simp [hpc, hcode]
  · rw [ad3Field_eq_operand a (.inl hc)]
    exact (decodeMop3_eq_some_iff hcfg hc).mpr h

/-- Settles O9: every field of a canonical word has a code, and each field's decoder reads its
operation from it. -/
theorem decodeOfEncode : Obligations.DecodeOfEncode := by
  intro cfg w hcfg hw halu2 hmop3
  obtain ⟨hslots, hdly, -, -⟩ := canonical_fields hw
  obtain ⟨s1, -, s3, s4, -⟩ := slotsOk_iff.mp hslots
  obtain ⟨c1, h1⟩ := Option.isSome_iff_exists.mp (alu1Code_isSome_iff (cfg := cfg).mpr s1)
  obtain ⟨c2, h2⟩ := Option.isSome_iff_exists.mp halu2
  obtain ⟨⟨m1, a1⟩, h3⟩ := Option.isSome_iff_exists.mp (mop1Code_isSome_iff.mpr s3)
  obtain ⟨⟨m2, a2⟩, h4⟩ := Option.isSome_iff_exists.mp (mop2Code_isSome_iff.mpr s4)
  obtain ⟨⟨m3, a3⟩, h5⟩ := Option.isSome_iff_exists.mp hmop3
  refine ⟨_, encode_of_codes (acting_eq_self (hdly ▸ id)) h1 h2 h3 h4 h5, decode_eq_ok_iff.mpr ?_⟩
  rw [fieldsOf_packFields]
  exact ⟨(decodeAlu1_eq_some_iff hcfg).mpr ⟨h1, pcOperandOk_ad3Field hw h5⟩,
    (decodeAlu2_eq_some_iff hcfg).mpr h2, decodeMop1_eq_some_iff.mpr ⟨a1, h3, fun _ => rfl⟩,
    decodeMop2_eq_some_iff.mpr ⟨a2, h4, fun _ => rfl⟩, decodeMop3_of_canonical hcfg hw h5⟩

/-! ### The words that decode -/

/-- A decoded MOP3 operation has the code it was read from, a decoded DLYPTR acts, and AD3 is the
operand of every operation but NOP (R108, R113, R280). -/
theorem mop3Code_of_decodeMop3 {cfg : Config} (hcfg : cfg.wf = true) {alu1 alu2 i : Instr}
    {c : BitVec 4} {a : Addr} (h : decodeMop3 cfg alu1 alu2 c a = some i) :
    (isDlyptr i = true → writesDlyi alu2 = true) ∧ ∃ b, mop3Code cfg i = some (c, b) ∧
      (i ≠ .nopMop3 → b = a ∧ (c ≠ 0#4 ∨ writesDlyi alu2 = true ∨ isPcOp alu1 = true)) := by
  by_cases hc : c = 0#4
  · subst hc
    rw [decodeMop3_zero] at h
    split at h
    next hpc =>
      cases h
      simp only [Bool.and_eq_true, beq_iff_eq] at hpc
      obtain ⟨hpc, hcode⟩ := hpc
      exact ⟨nofun, a, by rw [mop3Code, hcode], fun _ => ⟨rfl, .inr (.inr hpc)⟩⟩
    next =>
      split at h
      next hdlyi =>
        cases h
        exact ⟨fun _ => hdlyi, a, rfl, fun _ => ⟨rfl, .inr (.inl hdlyi)⟩⟩
      next =>
        cases h
        exact ⟨nofun, 0, rfl, fun hne => absurd rfl hne⟩
  · have hcode := (decodeMop3_eq_some_iff hcfg hc).mp h
    refine ⟨fun hd => ?_, a, hcode, fun _ => ⟨rfl, .inl hc⟩⟩
    cases i <;> cases hd
    cases hcode
    exact absurd rfl hc

/-- Settles O10: a decoded operation has the code it was read from, and its operand stands in its
address field. -/
theorem encodeOfDecode : Obligations.EncodeOfDecode := by
  intro cfg bits w hcfg h
  obtain ⟨h1, h2, h3, h4, h5⟩ := decode_eq_ok_iff.mp h
  obtain ⟨c1, -⟩ := (decodeAlu1_eq_some_iff hcfg).mp h1
  have c2 := (decodeAlu2_eq_some_iff hcfg).mp h2
  obtain ⟨a1, c3, ha1⟩ := decodeMop1_eq_some_iff.mp h3
  obtain ⟨a2, c4, ha2⟩ := decodeMop2_eq_some_iff.mp h4
  obtain ⟨hdly, a3, c5, ha3⟩ := mop3Code_of_decodeMop3 hcfg h5
  have hslots : w.slotsOk = true := slotsOk_iff.mpr
    ⟨alu1Code_isSome_iff.mp (Option.isSome_of_eq_some c1), slot_of_alu2Code c2,
      mop1Code_isSome_iff.mp (Option.isSome_of_eq_some c3),
      mop2Code_isSome_iff.mp (Option.isSome_of_eq_some c4), slot_of_mop3Code c5⟩
  refine ⟨hslots, fun _ => ⟨_, encode_of_codes (acting_eq_self hdly) c1 c2 c3 c4 c5, ?_⟩⟩
  rw [fieldsOf_packFields]
  refine ⟨rfl, rfl, rfl, rfl, rfl, ha1, ha2, fun hne => ?_⟩
  obtain ⟨rfl, hheld⟩ := ha3 hne
  exact ad3Field_eq_operand _ hheld

/-! ### The codes that nothing assigns -/

/-- The ALU1 values without an operation (R101, R111). -/
theorem decodeAlu1_eq_none_iff {cfg : Config} {c : BitVec 5} {a : Addr} :
    decodeAlu1 cfg c a = none ↔ alu1Unassigned c = true ∧ c ≠ cfg.shl2Code := by
  by_cases hu : alu1Unassigned c = true
  · simp [FieldRoundTrip.decodeAlu1_open cfg c a hu, hu]
  · refine iff_of_false (fun h => hu ?_) (fun h => hu h.1)
    obtain ⟨n, hn, rfl⟩ : ∃ n, n < 32 ∧ c = BitVec.ofNat 5 n := ⟨c.toNat, c.isLt, by simp⟩
    -- Each value is unassigned or has its operation.
    interval_cases n <;> first | rfl | cases h

/-- The ALU2 values without an operation (R102, R112, R118). -/
theorem decodeAlu2_eq_none_iff {cfg : Config} {c : BitVec 7} :
    decodeAlu2 cfg c = none ↔ alu2Unassigned c = true ∧ some c ≠ cfg.alu2ClraccCode ∧
      some c ≠ cfg.addAccZeroNoneLCode ∧ some c ≠ cfg.addAccZeroNoneMdCode := by
  by_cases hu : alu2Unassigned c = true
  · rw [FieldRoundTrip.decodeAlu2_open cfg c hu]
    split_ifs <;> simp [*]
  · refine iff_of_false (fun h => hu ?_) (fun h => hu h.1)
    obtain ⟨n, hn, rfl⟩ : ∃ n, n < 128 ∧ c = BitVec.ofNat 7 n := ⟨c.toNat, c.isLt, by simp⟩
    -- Each value is unassigned or has its operation.
    interval_cases n <;> first | rfl | cases h

/-- The MOP1 values without an operation (R103). -/
theorem decodeMop1_eq_none_iff {c : BitVec 5} {a : Addr} :
    decodeMop1 c a = none ↔ c ∉ [0#5, 1, 2, 3, 5, 6, 7, 8, 9, 0x14, 0x1C, 0x1F] := by
  unfold decodeMop1
  split <;> simp_all

/-- The MOP2 values without an operation (R104). -/
theorem decodeMop2_eq_none_iff {c : BitVec 3} {a : Addr} :
    decodeMop2 c a = none ↔ c ∈ [3#3, 4, 5] := by
  unfold decodeMop2
  split
  case h_6 =>
    revert c
    decide
  all_goals simp

/-- The MOP3 values without an operation, whatever stands beside them (R105, R113, R114). -/
theorem decodeMop3_eq_none_iff {cfg : Config} {alu1 alu2 : Instr} {c : BitVec 4} {a : Addr} :
    decodeMop3 cfg alu1 alu2 c a = none ↔
      mop3Unassigned c = true ∧ c ≠ cfg.pcaddrCode ∧ some c ≠ cfg.stVolCode := by
  by_cases hu : mop3Unassigned c = true
  · rw [FieldRoundTrip.decodeMop3_open cfg alu1 alu2 c a hu]
    split_ifs <;> simp [*]
  · refine iff_of_false (fun h => hu ?_) (fun h => hu h.1)
    unfold decodeMop3 at h
    split at h
    case h_1 =>
      repeat' split at h
      all_goals cases h
    case h_10 =>
      clear h hu
      revert c
      decide
    all_goals cases h

/-- A field whose code is assigned decodes. -/
theorem exists_eq_some_of_assigned {α : Type} {o : Option α} {bad : Prop} (h : o = none ↔ bad)
    (hbad : ¬ bad) : ∃ x, o = some x :=
  Option.ne_none_iff_exists'.mp (mt h.mp hbad)

/-- The step that fetches a word that does not decode faults with what the decoder names (R115). -/
theorem step_of_decode_error {s : State} {bits : InsnBits} {field : Slot} {code : Nat}
    (hb : s.frameClock < s.cfg.cyclesPerFrame) (hr : s.run = .running)
    (hp : s.pc < s.cfg.imemWords) (hm : Memory.read s.imem s.pc = some bits)
    (hd : decodeFields s.cfg (fieldsOf bits) = .error (field, code)) :
    step s = .fault (.illegalEncoding field code ⟨s.pc, s.now⟩) := by
  simp [step, advance, runClock, Nat.not_le.mpr hb, hr, fetchDecode, fetch, Nat.not_le.mpr hp, hm,
    decode, hd, siteOf]

/-- Settles O11: the fields before the first bad one decode, so the decoder names that one. -/
theorem unassignedCodesAreIllegal : Obligations.UnassignedCodesAreIllegal := by
  intro s bits hb hr hp hm
  have fault {field code} := step_of_decode_error (field := field) (code := code) hb hr hp hm
  generalize fieldsOf bits = f at fault
  have alu1 := decodeAlu1_eq_none_iff (cfg := s.cfg) (c := f.alu1) (a := f.ad3)
  have alu2 := decodeAlu2_eq_none_iff (cfg := s.cfg) (c := f.alu2)
  have mop1 := decodeMop1_eq_none_iff (c := f.mop1) (a := f.ad1)
  have mop2 := decodeMop2_eq_none_iff (c := f.mop2) (a := f.ad2)
  refine ⟨fun b1 => fault ?_, fun n1 b2 => fault ?_, fun n1 n2 b3 => fault ?_,
    fun n1 n2 n3 b4 => fault ?_, fun n1 n2 n3 n4 b5 => fault ?_⟩
  · simp [decodeFields, alu1.mpr b1]
  · obtain ⟨_, e1⟩ := exists_eq_some_of_assigned alu1 n1
    simp [decodeFields, e1, alu2.mpr b2]
  · obtain ⟨_, e1⟩ := exists_eq_some_of_assigned alu1 n1
    obtain ⟨_, e2⟩ := exists_eq_some_of_assigned alu2 n2
    simp [decodeFields, e1, e2, mop1.mpr b3]
  · obtain ⟨_, e1⟩ := exists_eq_some_of_assigned alu1 n1
    obtain ⟨_, e2⟩ := exists_eq_some_of_assigned alu2 n2
    obtain ⟨_, e3⟩ := exists_eq_some_of_assigned mop1 n3
    simp [decodeFields, e1, e2, e3, mop2.mpr b4]
  · obtain ⟨_, e1⟩ := exists_eq_some_of_assigned alu1 n1
    obtain ⟨_, e2⟩ := exists_eq_some_of_assigned alu2 n2
    obtain ⟨_, e3⟩ := exists_eq_some_of_assigned mop1 n3
    obtain ⟨_, e4⟩ := exists_eq_some_of_assigned mop2 n4
    simp [decodeFields, e1, e2, e3, e4, decodeMop3_eq_none_iff.mpr b5]

/-! ### Words written out -/

/-- Settles O12: every code and address of NOP is 0, and beside a NOP in ALU1 and ALU2 the MOP3 code
0000 is NOP. -/
theorem nopWordIsZero : Obligations.NopWordIsZero := by
  intro cfg
  exact ⟨(encode_of_codes (w := .nops) rfl rfl rfl rfl rfl rfl).trans rfl,
    decode_eq_ok_iff.mpr ⟨rfl, rfl, rfl, rfl, rfl⟩⟩

/-- Settles O13: each field of each word, by the decoder's tables. -/
theorem wordsFromTheTables : Obligations.WordsFromTheTables :=
  ⟨decode_eq_ok_iff.mpr ⟨rfl, rfl, rfl, rfl, rfl⟩, decode_eq_ok_iff.mpr ⟨rfl, rfl, rfl, rfl, rfl⟩,
    decode_eq_ok_iff.mpr ⟨rfl, rfl, rfl, rfl, rfl⟩, decode_eq_ok_iff.mpr ⟨rfl, rfl, rfl, rfl, rfl⟩⟩

end Sys2Proof.Machine

/-! Proofs of the statements of 40_alu1.md: the clock of a word with one ALU1 operation, ALU1's
functions as integers (O15, O16), what the source fixes of the logarithms (O17, O18), and the words
that do nothing (O14). -/

namespace Sys2Proof.Machine

/-! ### Words with only an ALU1 operation -/

theorem wordFault_wordAlu1 {s : State} {i : Instr} (hp : s.pipe = none) (hi : isPcOp i = false) :
    wordFault (wordAlu1 i) s = none :=
  wordFault_of_form hp (by simp [pcFormBad, wordAlu1, hi, isPcaddr]) rfl rfl

/-- A word with only an ALU1 operation but a PC operation completes with what that operation
schedules. -/
theorem execWord_wordAlu1 {i : Instr} {s : State} {k : Sched} (hp : s.pipe = none)
    (hi : isPcOp i = false) (hexec : exec i (issue (wordAlu1 i) s) = .next { s with sched := k })
    (hc : k.conflict = none) (hd : k.dlyi = none) :
    execWord (wordAlu1 i) s = .next (tickedWith k s) :=
  execWord_ticked hp (wordFault_wordAlu1 hp hi) rfl (execFields_of hexec rfl rfl rfl rfl) hc hd

/-- An ALU1 operation that gives `f` of B to BR, by itself and alone in its word. -/
theorem alu1_completes_br {i : Instr} (f : Data → Data) (hi : isPcOp i = false)
    (hexec : ∀ u, exec i u = .next (setBr (f u.b) u)) {s : State} {v : Data} (hv : f s.b = v) :
    exec i s = .next (setBr v s) ∧
      (s.pipe = none → execWord (wordAlu1 i) s = .next { ticked s with br := v }) := by
  subst hv
  exact ⟨hexec s, fun hp =>
    execWord_wordAlu1 (k := { Sched.empty with br := some (f s.b) }) hp hi (hexec _) rfl rfl⟩

/-- An ALU1 operation that gives `f` of L to LR, by itself and alone in its word; the logarithms
also depend on the parameter (R7). -/
theorem alu1_completes_lr {i : Instr} (f : LogModel → Data → Data) (hi : isPcOp i = false)
    (hexec : ∀ u, exec i u = .next (setLr (f u.cfg.logs u.l) u)) {s : State} {v : Data}
    (hv : f s.cfg.logs s.l = v) :
    exec i s = .next (setLr v s) ∧
      (s.pipe = none → execWord (wordAlu1 i) s = .next { ticked s with lr := v }) := by
  subst hv
  exact ⟨hexec s, fun hp =>
    execWord_wordAlu1 (k := { Sched.empty with lr := some (f s.cfg.logs s.l) }) hp hi
      (hexec _) rfl rfl⟩

/-! ### ALU1's functions as integers -/

theorem neg48_eq_ofInt (v : Data) : neg48 v = BitVec.ofInt 48 (-v.toInt) := by
  rw [neg48, BitVec.ofInt_neg, BitVec.ofInt_toInt]
  exact (BitVec.neg_eq_not_add v).symm

theorem abs48_eq_ofInt (v : Data) :
    abs48 v = BitVec.ofInt 48 (if v.toInt < 0 then -v.toInt else v.toInt) := by
  rw [abs48, BitVec.msb_eq_toInt, apply_ite (BitVec.ofInt 48), BitVec.ofInt_neg, BitVec.ofInt_toInt]
  simp only [decide_eq_true_eq]

theorem shr48_eq_ofNat (n : Nat) (v : Data) : shr48 n v = BitVec.ofNat 48 (v.toNat / 2 ^ n) := by
  rw [shr48, ← Nat.shiftRight_eq_div_pow, ← BitVec.toNat_ushiftRight, BitVec.ofNat_toNat,
    BitVec.setWidth_eq]

theorem shl48_eq_ofInt (n : Nat) (v : Data) : shl48 n v = BitVec.ofInt 48 (v.toInt * 2 ^ n) := by
  have hpow : BitVec.ofInt 48 ((2 ^ n : ℕ) : ℤ) = BitVec.twoPow 48 n := by
    rw [BitVec.ofInt_natCast]
    exact BitVec.eq_of_toNat_eq (by rw [BitVec.toNat_ofNat, BitVec.toNat_twoPow])
  push_cast at hpow
  rw [shl48, BitVec.shiftLeft_eq_mul_twoPow, BitVec.ofInt_mul, BitVec.ofInt_toInt, hpow]

/-- Settles O15: each operation's function of B, as an integer. -/
theorem alu1OnB : Obligations.Alu1OnB := by
  intro s
  simp only [List.forall_mem_cons, List.not_mem_nil, false_implies, implies_true, and_true]
  exact ⟨alu1_completes_br abs48 rfl (fun _ => rfl) (abs48_eq_ofInt s.b),
    alu1_completes_br neg48 rfl (fun _ => rfl) (neg48_eq_ofInt s.b),
    alu1_completes_br id rfl (fun _ => rfl) rfl,
    alu1_completes_br (shr48 1) rfl (fun _ => rfl) (shr48_eq_ofNat 1 s.b),
    alu1_completes_br (shr48 2) rfl (fun _ => rfl) (shr48_eq_ofNat 2 s.b),
    alu1_completes_br (shr48 3) rfl (fun _ => rfl) (shr48_eq_ofNat 3 s.b),
    alu1_completes_br (shr48 4) rfl (fun _ => rfl) (shr48_eq_ofNat 4 s.b),
    alu1_completes_br (shl48 1) rfl (fun _ => rfl) (shl48_eq_ofInt 1 s.b),
    alu1_completes_br (shl48 2) rfl (fun _ => rfl) (shl48_eq_ofInt 2 s.b),
    alu1_completes_br (shl48 3) rfl (fun _ => rfl) (shl48_eq_ofInt 3 s.b),
    alu1_completes_br (shl48 4) rfl (fun _ => rfl) (shl48_eq_ofInt 4 s.b),
    alu1_completes_br (shl48 20) rfl (fun _ => rfl) (shl48_eq_ofInt 20 s.b)⟩

/-- Settles O16: each operation's function of L, as an integer. -/
theorem alu1OnL : Obligations.Alu1OnL := by
  intro s
  simp only [List.forall_mem_cons, List.not_mem_nil, false_implies, implies_true, and_true]
  exact ⟨alu1_completes_lr (fun _ => abs48) rfl (fun _ => rfl) (abs48_eq_ofInt s.l),
    alu1_completes_lr (fun _ => neg48) rfl (fun _ => rfl) (neg48_eq_ofInt s.l),
    alu1_completes_lr (fun _ => id) rfl (fun _ => rfl) rfl⟩

/-! ### The logarithms -/

/-- LOG2_FN gives a word of the 5.4 format everywhere in the stated range (R136(b)). -/
theorem log2Fn_eq_from54 (m : LogModel) {v : Data} (hv : v.msb = false) :
    ∃ bits, log2Fn m v = from54 bits := by
  cases m with
  | reconstruction =>
    simp only [log2Fn, log2Reconstruction]
    split <;> exact ⟨_, rfl⟩
  | sourceOnly =>
    simp only [log2Fn, hv, Bool.false_eq_true, if_false]
    split_ifs
    · exact ⟨0x01F, rfl⟩
    · exact ⟨0x07F, rfl⟩
    · exact ⟨0x1FF, rfl⟩
    · exact ⟨0x000, rfl⟩
    · exact ⟨_, rfl⟩

/-- The ends of LOG2's range and its data points (R136(b), R136(c)), under both settings. -/
theorem log2Fn_points (m : LogModel) :
    log2Fn m 0 = 0x00000FF80000 ∧ log2Fn m 0x7FFFFFFFFFFF = 0 ∧
      log2Fn m 0x200000000000 = 0x000000F80000 ∧ log2Fn m 0x008000000000 = 0x000003F80000 := by
  cases m <;> decide

/-- Settles O17: the word is LOG2_FN of L. -/
theorem log2Completes : Obligations.Log2Completes := by
  intro s
  obtain ⟨hexec, hword⟩ := alu1_completes_lr (i := .log2) (s := s) log2Fn rfl
    (fun _ => rfl) rfl
  obtain ⟨zero, one, quarter, small⟩ := log2Fn_points s.cfg.logs
  exact ⟨_, hexec, hword, log2Fn_eq_from54 s.cfg.logs, fun h => h ▸ zero, fun h => h ▸ one,
    fun h => h ▸ quarter, fun h => h ▸ small⟩

@[simp] theorem extractLsb'_from54 (bits : BitVec 9) : (from54 bits).extractLsb' 19 9 = bits := by
  ext i hi
  have hi' : i < 48 ∧ 19 + i < 48 := by omega
  simp [from54, hi, hi']

/-- The leading one of R139's number stands at bit 26. -/
theorem alog2Reconstruction_lt (v : Data) : (alog2Reconstruction v).toNat < 2 ^ 28 := by
  have hmant := (1#1 ++ ~~~v.extractLsb' 19 4 : BitVec 5).isLt
  rw [alog2Reconstruction, BitVec.toNat_ushiftRight]
  refine Nat.lt_of_le_of_lt (Nat.shiftRight_le _ _) ?_
  rw [BitVec.toNat_shiftLeft, BitVec.toNat_setWidth_of_le (by decide), Nat.shiftLeft_eq]
  omega

/-- ALOG2_FN of a word of the 5.4 format has at most five integer bits (log 8). -/
theorem alog2Fn_from54_lt (m : LogModel) (bits : BitVec 9) :
    (alog2Fn m (from54 bits)).toNat < 2 ^ 28 := by
  cases m with
  | reconstruction => exact alog2Reconstruction_lt _
  | sourceOnly =>
    simp only [alog2Fn, extractLsb'_from54, if_true]
    split_ifs
    · decide
    · decide
    · rw [BitVec.toNat_setWidth_of_le (by decide)]
      exact BitVec.isLt _

/-- ALOG2's data points (R137(c)), under both settings. -/
theorem alog2Fn_points (m : LogModel) :
    alog2Fn m 0x000000F80000 = 0x000002000000 ∧ alog2Fn m 0x000000780000 = 0x000004000000 := by
  cases m <;> decide

/-- Settles O18: the word is ALOG2_FN of L. -/
theorem alog2Completes : Obligations.Alog2Completes := by
  intro s
  obtain ⟨hexec, hword⟩ := alu1_completes_lr (i := .alog2) (s := s) alog2Fn rfl
    (fun _ => rfl) rfl
  obtain ⟨four, eight⟩ := alog2Fn_points s.cfg.logs
  refine ⟨_, hexec, hword, ?_, fun h => h ▸ four, fun h => h ▸ eight⟩
  rintro ⟨bits, hl⟩
  rw [hl]
  exact alog2Fn_from54_lt s.cfg.logs bits

/-! ### Words that do nothing -/

/-- Settles O14: the all-NOP word schedules nothing, and a pointer without a DLYI write lands
nowhere. -/
theorem nopCompletes : Obligations.NopCompletes := by
  intro s
  refine ⟨?_, fun _ => rfl, fun _ => rfl, fun hp => ⟨?_, fun ptr => ?_⟩⟩
  · simp only [List.forall_mem_cons, List.not_mem_nil, false_implies, implies_true, and_true]
    exact ⟨rfl, rfl, rfl, rfl, rfl⟩
  · exact execWord_wordMop3 (i := .nopMop3) (k := Sched.empty) hp rfl rfl rfl rfl
  · exact execWord_wordMop3 (k := { Sched.empty with dlyPtr := some ptr }) hp rfl rfl rfl rfl

end Sys2Proof.Machine

/-! Proofs of the statements of 41_pc_operations.md: the branches (O44) and their four clocks (O46),
STOP (O45), and the malformed words of a PC operation (O49). -/

namespace Sys2Proof.Machine

/-! ### A clock without a word's writes keeps the program's registers and memories -/

@[simp] theorem ticked_run (s : State) : (ticked s).run = s.run := rfl
@[simp] theorem ticked_b (s : State) : (ticked s).b = s.b := rfl
@[simp] theorem ticked_l (s : State) : (ticked s).l = s.l := rfl
@[simp] theorem ticked_md (s : State) : (ticked s).md = s.md := rfl
@[simp] theorem ticked_mc (s : State) : (ticked s).mc = s.mc := rfl
@[simp] theorem ticked_br (s : State) : (ticked s).br = s.br := rfl
@[simp] theorem ticked_lr (s : State) : (ticked s).lr = s.lr := rfl
@[simp] theorem ticked_acc (s : State) : (ticked s).acc = s.acc := rfl
@[simp] theorem ticked_outs (s : State) : (ticked s).outs = s.outs := rfl
@[simp] theorem ticked_dlyi (s : State) : (ticked s).dlyi = s.dlyi := rfl
@[simp] theorem ticked_data (s : State) : (ticked s).data = s.data := rfl
@[simp] theorem ticked_coef (s : State) : (ticked s).coef = s.coef := rfl
@[simp] theorem ticked_dreg0 (s : State) : (ticked s).dreg0 = s.dreg0 := rfl

/-! ### The word of a PC operation -/

/-- A well-formed word of a PC operation that finds the pipe empty and puts `p` into it, with a
MOP3 operation that schedules at most a pointer, does nothing else (R162). -/
theorem execWord_pcOp {i j : Instr} {s : State} {p : Pipe} {ptr : Option Addr}
    (hp : s.pipe = none) (hform : pcFormBad ⟨i, .nopAlu2, .nopMop1, .nopMop2, j⟩ = false)
    (hi : exec i (issue ⟨i, .nopAlu2, .nopMop1, .nopMop2, j⟩ s) =
      .next { s with sched := { Sched.empty with pipe := some p } })
    (hj : exec j { s with sched := { Sched.empty with pipe := some p } } =
      .next { s with sched := { Sched.empty with pipe := some p, dlyPtr := ptr } }) :
    execWord ⟨i, .nopAlu2, .nopMop1, .nopMop2, j⟩ s =
      .next { ticked s with pipe := some p } :=
  execWord_ticked (k := { Sched.empty with pipe := some p, dlyPtr := ptr }) hp
    (wordFault_of_form hp hform rfl rfl) rfl (execFields_of hi rfl rfl rfl hj) rfl rfl

/-- Settles O45: each of the three MOP3 operations leaves the pipe as STOP sets it. -/
theorem stopCompletes : Obligations.StopCompletes := by
  intro s a
  exact ⟨rfl, fun hp => ⟨execWord_stop hp,
    execWord_pcOp (ptr := none) hp rfl rfl rfl,
    execWord_pcOp (ptr := some a) hp rfl rfl rfl⟩⟩

/-! ### Branches -/

/-- The branches to `a`, each with whether it is taken when A_CP_B is `flag` (R163 to R165). -/
def branches (flag : Bool) (a : Addr) : List (Instr × Bool) :=
  [(.jmp a, true), (.boc a, flag), (.bnc a, !flag)]

theorem exec_of_mem_branches {a : Addr} {s : State} {q : Instr × Bool}
    (hq : q ∈ branches s.acpb a) : exec q.1 s = branchIf q.2 a s := by
  simp only [branches, List.mem_cons, List.not_mem_nil, or_false] at hq
  obtain rfl | rfl | rfl := hq <;> rfl

theorem fst_mem_of_mem_branches {flag : Bool} {a : Addr} {q : Instr × Bool}
    (hq : q ∈ branches flag a) : q.1 ∈ ([.jmp a, .boc a, .bnc a] : List Instr) :=
  List.mem_map_of_mem (f := Prod.fst) hq

theorem inOwnWords_iff {a : Addr} {s : State} :
    inOwnWords a s = true ↔ s.pc ≤ a.toNat ∧ a.toNat ≤ s.pc + 3 := by
  simp [inOwnWords]

/-- A branch whose target is inside the instruction memory and outside its own words. -/
theorem branchIf_completes {a : Addr} {s : State} (taken : Bool)
    (ha : a.toNat < s.cfg.imemWords) (hown : a.toNat < s.pc ∨ s.pc + 3 < a.toNat) :
    branchIf taken a s = .next (schedPipe (if taken then some a else none) false s) := by
  have hout : ¬ inOwnWords a s = true := fun h => by
    have := inOwnWords_iff.mp h
    omega
  rw [branchIf, if_neg hout, if_neg (Nat.not_le.mpr ha)]

theorem branchIf_inOwnWords {a : Addr} {s : State} (taken : Bool) (h1 : s.pc ≤ a.toNat)
    (h2 : a.toNat ≤ s.pc + 3) : branchIf taken a s = .fault (.pcOpMalformed (siteOf s)) :=
  if_pos (inOwnWords_iff.mpr ⟨h1, h2⟩)

theorem execWord_branch {a : Addr} {s : State} {q : Instr × Bool} (hq : q ∈ branches s.acpb a)
    (hp : s.pipe = none) (ha : a.toNat < s.cfg.imemWords)
    (hown : a.toNat < s.pc ∨ s.pc + 3 < a.toNat) :
    execWord (wordBranch q.1 a) s =
      .next { ticked s with pipe := some ⟨3, if q.2 then some a else none, false⟩ } :=
  have hexec : exec q.1 (issue (wordBranch q.1 a) s) = _ :=
    (exec_of_mem_branches (s := issue (wordBranch q.1 a) s) hq).trans
      (branchIf_completes q.2 ha hown)
  execWord_pcOp (ptr := none) hp (pcFormBad_wordBranch (fst_mem_of_mem_branches hq)) hexec rfl

/-- Settles O44: the target goes into the pipe exactly when the branch is taken. -/
theorem branchesComplete : Obligations.BranchesComplete := by
  intro s a ha hown
  have hlist : ([(.jmp a, some a), (.boc a, if s.acpb then some a else none),
      (.bnc a, if s.acpb then none else some a)] : List (Instr × Option Addr)) =
      (branches s.acpb a).map fun q => (q.1, if q.2 then some a else none) := by
    cases h : s.acpb <;> rfl
  rw [hlist, List.forall_mem_map]
  intro q hq
  exact ⟨(exec_of_mem_branches hq).trans (branchIf_completes q.2 ha hown),
    fun hp => execWord_branch hq hp ha hown⟩

/-- Before the last of the three all-NOP words the pipe counts down (R162). -/
theorem execWord_nops_counts {s : State} {n : Nat} {target : Option Addr} {stop : Bool}
    (hp : s.pipe = some ⟨n + 2, target, stop⟩) :
    execWord .nops s = .next { ticked s with pipe := some ⟨n + 1, target, stop⟩ } :=
  (pipePasses s _ hp).1.trans (congrArg _ (if_neg (by simp)))

/-- With the last of the three all-NOP words the branch is done (R162, R169). -/
theorem execWord_nops_drains {s : State} {target : Option Addr}
    (hp : s.pipe = some ⟨1, target, false⟩) :
    execWord .nops s =
      .next { ticked s with pipe := none, pc := target.elim (s.pc + 1) BitVec.toNat } := by
  refine (pipePasses s _ hp).1.trans (congrArg _ ((if_pos (Nat.le_refl 1)).trans ?_))
  cases target <;> rfl

/-- Settles O46: the pipe of a branch counts from 3 to 1 and drains to its target. -/
theorem branchTakesFourClocks : Obligations.BranchTakesFourClocks := by
  intro s a hp ha hown q hq
  rw [execWord_branch hq hp ha hown, andThen_next, execWord_nops_counts (n := 1) rfl,
    andThen_next, execWord_nops_counts (n := 0) rfl, andThen_next, execWord_nops_drains rfl]
  refine ⟨_, rfl, ?_, ?_⟩
  · cases q.2 <;> rfl
  · simp

/-! ### Malformed words -/

theorem isPcOp_iff {i : Instr} :
    isPcOp i = true ↔ ∃ a, i ∈ ([.jmp a, .boc a, .bnc a, .stop] : List Instr) := by
  cases i <;> simp [isPcOp]

theorem isPcaddr_iff {i : Instr} : isPcaddr i = true ↔ ∃ a, i = .pcaddr a := by
  cases i <;> simp [isPcaddr]

/-- When a word breaks R161(a) to (d). -/
theorem pcFormBad_iff {w : InsnWord} : pcFormBad w = true ↔
    (isPcOp w.alu1 = true ∧
      ((w.alu2 ≠ .nopAlu2 ∨ w.mop1 ≠ .nopMop1 ∨ w.mop2 ≠ .nopMop2) ∨
        pcOperandOk w.alu1 (acting w).mop3 = false)) ∨
    (isPcOp w.alu1 = false ∧ isPcaddr w.mop3 = true) := by
  cases h : isPcOp w.alu1 <;> simp [pcFormBad, h, or_assoc]

theorem acting_mop3_of_not_dlyptr {w : InsnWord} (h : ∀ b, w.mop3 ≠ .dlyptr b) :
    (acting w).mop3 = w.mop3 := by
  have hd : isDlyptr w.mop3 = false := Bool.eq_false_iff.mpr fun hd =>
    (eq_dlyptr_of_isDlyptr hd).elim h
  simp [acting, hd]

/-- Acting as NOP makes no PCADDR (R280). -/
theorem acting_mop3_ne_pcaddr {w : InsnWord} {a : Addr} (h : w.mop3 ≠ .pcaddr a) :
    (acting w).mop3 ≠ .pcaddr a := by
  unfold acting
  split
  · exact nofun
  · exact h

/-- A branch needs the PCADDR of its target (R161(b)). -/
theorem pcOperandOk_branch {a : Addr} {i j : Instr}
    (hi : i ∈ ([.jmp a, .boc a, .bnc a] : List Instr)) (hj : j ≠ .pcaddr a) :
    pcOperandOk i j = false := by
  simp only [List.mem_cons, List.not_mem_nil, or_false] at hi
  obtain rfl | rfl | rfl := hi <;> exact beq_eq_false_iff_ne.mpr hj

/-- STOP needs a NOP or a PCADDR (R161(c)). -/
theorem pcOperandOk_stop {j : Instr} (hnop : j ≠ .nopMop3) (haddr : ∀ b, j ≠ .pcaddr b) :
    pcOperandOk .stop j = false := by
  have hj : isPcaddr j = false := Bool.eq_false_iff.mpr fun h => (isPcaddr_iff.mp h).elim haddr
  simp [pcOperandOk, hnop, hj]

/-- A word of the wrong form faults in an empty pipe (R161). -/
theorem execWord_of_pcFormBad {w : InsnWord} {s : State} (hp : s.pipe = none)
    (h : pcFormBad w = true) : execWord w s = .fault (.pcOpMalformed (siteOf s)) := by
  simp [execWord, wordFault, hp, h]

/-- R161(e), by the branch itself and in its word. -/
theorem branch_inOwnWords {a : Addr} {s : State} {i : Instr} (hp : s.pipe = none)
    (h1 : s.pc ≤ a.toNat) (h2 : a.toNat ≤ s.pc + 3)
    (hi : i ∈ ([.jmp a, .boc a, .bnc a] : List Instr)) :
    exec i s = .fault (.pcOpMalformed (siteOf s)) ∧
      execWord (wordBranch i a) s = .fault (.pcOpMalformed (siteOf s)) := by
  have hfault : ∀ u : State, u.pc = s.pc → exec i u = .fault (.pcOpMalformed (siteOf u)) := by
    intro u hu
    obtain ⟨taken, hexec⟩ := exec_branch hi u
    exact hexec.trans (branchIf_inOwnWords taken (hu ▸ h1) (hu ▸ h2))
  exact ⟨hfault s rfl, execWord_of_alu1_fault
    (wordFault_of_form hp (pcFormBad_wordBranch hi) rfl rfl) rfl (hfault _ rfl)⟩

/-- Settles O49: clauses (a) to (d) of R161 are the check of the word's form, (e) is the branch's
own. -/
theorem pcOpMalformed : Obligations.PcOpMalformed := by
  intro s w a hp
  have bad : pcFormBad w = true → execWord w s = .fault (.pcOpMalformed ⟨s.pc, s.now⟩) :=
    execWord_of_pcFormBad hp
  refine ⟨fun hi hother => bad (pcFormBad_iff.mpr (.inl ⟨isPcOp_iff.mpr ⟨a, hi⟩, .inl hother⟩)),
    fun hi hmop3 => bad (pcFormBad_iff.mpr (.inl ⟨?_, .inr ?_⟩)),
    fun hi hnop haddr hptr => bad (pcFormBad_iff.mpr (.inl ⟨?_, .inr ?_⟩)),
    fun hmop3 hi => bad (pcFormBad_iff.mpr (.inr ⟨?_, ?_⟩)),
    fun h1 h2 i hi => branch_inOwnWords hp h1 h2 hi⟩
  · exact isPcOp_iff.mpr ⟨a, List.mem_append_left (as := [Instr.jmp a, .boc a, .bnc a]) [.stop] hi⟩
  · exact pcOperandOk_branch hi (acting_mop3_ne_pcaddr (hmop3 a))
  · exact hi ▸ rfl
  · rw [hi, acting_mop3_of_not_dlyptr hptr]
    exact pcOperandOk_stop hnop haddr
  · exact Bool.eq_false_iff.mpr fun h => (isPcOp_iff.mp h).elim hi
  · exact isPcaddr_iff.mpr ⟨a, hmop3⟩

end Sys2Proof.Machine

/-! Proofs of the statements of 42_alu2.md: Conv76 (O21), Reduce48 (O22) and the compare function
(O32). -/

namespace Sys2Proof.Machine

/-! ### Conv76 -/

theorem conv76_eq_shiftLeft (v : Data) : conv76 v = v.signExtend 76 <<< 23 := by
  refine BitVec.eq_of_getLsbD_eq fun i hi => ?_
  rw [conv76, BitVec.getLsbD_sshiftRight, BitVec.getLsbD_append, BitVec.getLsbD_shiftLeft,
    BitVec.getLsbD_signExtend, BitVec.msb_append]
  by_cases hzero : i < 23
  · have h28 : 5 + i < 28 := by omega
    have h76 : 5 + i < 76 := by omega
    simp [hi, hzero, h28, h76]
  · have h28 : ¬ 5 + i < 28 := by omega
    have h76 : i - 23 < 76 := by omega
    have hbit : 5 + i - 28 = i - 23 := by omega
    have hsign : 5 + i < 76 ↔ i - 23 < 48 := by omega
    simp [hi, hzero, h28, h76, hbit, hsign]

theorem getLsbD_conv76_word (v : Data) {i : Nat} (hi : i < 48) :
    (conv76 v).getLsbD (23 + i) = v.getLsbD i := by
  have hshift : 23 + i < 76 := by omega
  have hword : i < 76 := by omega
  rw [conv76_eq_shiftLeft, BitVec.getLsbD_shiftLeft, Nat.add_sub_cancel_left,
    BitVec.getLsbD_signExtend]
  simp [hi, hshift, hword]

theorem getLsbD_conv76_sign (v : Data) {i : Nat} (h1 : 71 ≤ i) (h2 : i < 76) :
    (conv76 v).getLsbD i = v.msb := by
  have hshift : ¬ 5 + i < 76 := by omega
  rw [conv76, BitVec.getLsbD_sshiftRight, if_neg hshift, BitVec.msb_append]
  simp [h2]

/-- Settles O21: the append form is Conv76's definition. -/
theorem conv76Exact : Obligations.Conv76Exact := fun v =>
  ⟨rfl, conv76_eq_shiftLeft v, conv76_toInt v, fun _ => getLsbD_conv76_word v,
    fun _ => getLsbD_conv76_sign v⟩

/-! ### Reduce48 -/

theorem extractLsb'_eq_iff {w : Nat} (x : BitVec w) (lo len : Nat) (v : BitVec len) :
    x.extractLsb' lo len = v ↔ x.toNat / 2 ^ lo % 2 ^ len = v.toNat := by
  rw [← BitVec.toNat_inj, BitVec.extractLsb'_toNat, Nat.shiftRight_eq_div_pow]

theorem magnitudeTruncate_eq (x : Acc) :
    magnitudeTruncate x =
      if x.getLsbD 75 = true ∧ x.toNat % 2 ^ 23 ≠ 0 then x + 2 ^ 23 else x := by
  have hpow : (2 ^ 23 : Acc) = 0x800000 := rfl
  simp only [magnitudeTruncate, BitVec.msb_eq_getLsbD_last, ne_eq, extractLsb'_eq_iff, hpow]
  simp

theorem extractLsb'_eq_ofNat {w : Nat} (x : BitVec w) (lo len : Nat) :
    x.extractLsb' lo len = BitVec.ofNat len (x.toNat / 2 ^ lo) := by
  rw [BitVec.extractLsb', Nat.shiftRight_eq_div_pow]

/-- The 48-bit clip of Figure 16 on bits 74 to 70 (R184). -/
theorem reduce48_eq (x : Acc) :
    let y := magnitudeTruncate x
    let mid := y.toNat / 2 ^ 70 % 32
    reduce48 x =
      if y.getLsbD 75 = true ∧ mid ≠ 31 then 0x800000000000
      else if y.getLsbD 75 = false ∧ mid ≠ 0 then 0x7FFFFFFFFFFF
      else BitVec.ofNat 48 (y.toNat / 2 ^ 23) := by
  simp only [reduce48, BitVec.msb_eq_getLsbD_last, ne_eq, extractLsb'_eq_iff, Bool.not_eq_true,
    extractLsb'_eq_ofNat _ 23]
  rfl

theorem signBit_eq (x : Acc) : x.getLsbD 75 = decide (x.toInt < 0) :=
  x.msb_eq_getLsbD_last.symm.trans x.msb_eq_toInt

/-- A negative sum has room for one unit of bit 23. -/
theorem toInt_add_unit {x : Acc} (hx : x.toInt < 0) : (x + 2 ^ 23).toInt = x.toInt + 2 ^ 23 := by
  have hunit : (2 ^ 23 : Acc).toInt = 2 ^ 23 := rfl
  have hlow := BitVec.le_toInt x
  rw [BitVec.toInt_add, hunit]
  apply Int.bmod_eq_of_le <;> norm_num at * <;> omega

/-- Magnitude truncation makes the floor of bits 22 to 0 a rounding toward zero. -/
theorem magnitudeTruncate_div (x : Acc) :
    (magnitudeTruncate x).toInt / 2 ^ 23 = quot23 x := by
  have hmod : (x.toNat % 2 ^ 23 : ℕ) = x.toInt % 2 ^ 23 := by
    rw [x.toInt_eq_toNat_cond]; omega
  have hsign : Int.sign (2 ^ 23) = 1 := rfl
  rw [magnitudeTruncate_eq, quot23, Int.tdiv_eq_ediv, hsign]
  simp only [signBit_eq, decide_eq_true_iff]
  split_ifs with hup hexact
  · omega
  · rw [toInt_add_unit hup.1]
    omega
  · omega
  · omega

/-- Bits 75 to 70 all agree exactly when 48 bits hold the rounded sum (R184). -/
theorem reduce48_toInt (x : Acc) : (reduce48 x).toInt = satInt 48 (quot23 x) := by
  rw [reduce48_eq, ← magnitudeTruncate_div]
  generalize magnitudeTruncate x = y
  have hlow := BitVec.le_toInt y
  have hhigh := BitVec.toInt_lt (x := y)
  have hcond := y.toInt_eq_toNat_cond
  simp only [signBit_eq, decide_eq_true_iff, decide_eq_false_iff_not]
  split_ifs with hneg hpos
  · have hmin : (0x800000000000 : Data).toInt = -2 ^ 47 := rfl
    rw [hmin, satInt]
    omega
  · have hmax : (0x7FFFFFFFFFFF : Data).toInt = 2 ^ 47 - 1 := rfl
    rw [hmax, satInt]
    omega
  · rw [BitVec.toInt_eq_toNat_cond, BitVec.toNat_ofNat, satInt]
    omega

/-- Settles O22: the rounding of the one part and the clip of the other. -/
theorem reduce48IsSaturation : Obligations.Reduce48IsSaturation := fun x =>
  ⟨magnitudeTruncate_eq x ▸ reduce48_eq x, reduce48_toInt x⟩

/-! ### The compare function -/

/-- Operands of unlike signs are decided by their magnitudes, equal ones by the sign of B (R216). -/
theorem sixRules_of_unlike {x y : Int} (h : ¬ (x < 0 ↔ y < 0)) :
    sixRules x y =
      if x.natAbs = y.natAbs then decide (y < 0) else decide (y.natAbs < x.natAbs) := by
  rw [sixRules, if_neg (by omega), if_neg (by omega)]

/-- Settles O32: the first two rules are of like signs, the others of unlike ones. -/
theorem compFnSixRules : Obligations.CompFnSixRules := by
  intro a b
  simp only [compFn_eq_sixRules]
  generalize a.toInt = x
  generalize b.toInt = y
  have unlike : decide (x < 0) ≠ decide (y < 0) → ¬ (x < 0 ↔ y < 0) := fun hne hiff =>
    hne (decide_eq_decide.mpr hiff)
  refine ⟨fun hx hy => if_pos ⟨hx, hy⟩, fun hx hy => ?_, fun hx hy heq => ?_, fun hx hy heq => ?_,
    fun hne hlt => ?_, fun hne hlt => ?_⟩
  · rw [sixRules, if_neg (by omega), if_pos ⟨hx, hy⟩]
  · rw [sixRules_of_unlike (by omega), if_pos heq, decide_eq_false (by omega)]
  · rw [sixRules_of_unlike (by omega), if_pos heq, decide_eq_true hy]
  · rw [sixRules_of_unlike (unlike hne), if_neg hlt.ne', decide_eq_true hlt]
  · rw [sixRules_of_unlike (unlike hne), if_neg hlt.ne, decide_eq_false hlt.not_gt]

end Sys2Proof.Machine

/-! Proofs of the statements of 42_alu2.md, continued: the ADD forms in integers (O23 to O31) and
the COMP forms (O33), each by itself and in its word. -/

namespace Sys2Proof.Machine

/-! ### The sum and its clips as integers -/

theorem satInt_bounds (n : Nat) (v : Int) :
    -2 ^ (n - 1) ≤ satInt n v ∧ satInt n v < 2 ^ (n - 1) := by
  have hpos : (0 : Int) < 2 ^ (n - 1) := by positivity
  simp only [satInt]
  omega

theorem setWidth_ofInt {m n : Nat} (h : m ≤ n) (q : Int) :
    (BitVec.ofInt n q).setWidth m = BitVec.ofInt m q := by
  apply BitVec.eq_of_toInt_eq
  rw [← BitVec.signExtend_eq_setWidth_of_le _ h, BitVec.toInt_signExtend_eq_toInt_bmod_of_le _ h,
    BitVec.toInt_ofInt, BitVec.toInt_ofInt, Int.bmod_bmod_of_dvd (Nat.pow_dvd_pow 2 h)]

/-- An integer that `n` bits hold, sign-extended from them. -/
theorem signExtend_ofInt {m n : Nat} (h : n ≤ m) (hn : 0 < n) {q : Int} (hlow : -2 ^ (n - 1) ≤ q)
    (hhigh : q < 2 ^ (n - 1)) : (BitVec.ofInt n q).signExtend m = BitVec.ofInt m q := by
  rw [← BitVec.ofInt_toInt (x := (BitVec.ofInt n q).signExtend m),
    BitVec.toInt_signExtend_of_le h, BitVec.toInt_ofInt_eq_self hn hlow hhigh]

/-- The bits a clip saturates to (R184, R185, R186). -/
def Clip.bits (win : Clp32Window) : Clip → Nat
  | .none => 48
  | .clp32 => 32 + win.lsb
  | .clp28 => 28

theorem sumOf_toInt (a : OperandA) (b : OperandB) (s : State) :
    (sumOf a b s).toInt = wrappedSum a b s := by
  rw [sumOf, BitVec.toInt_add, valueA_toInt, valueB_toInt]
  rfl

theorem sumOf_eq_ofInt (a : OperandA) (b : OperandB) (s : State) :
    sumOf a b s = BitVec.ofInt 76 (intA a s + intB b s) := by
  rw [sumOf, BitVec.ofInt_add, ← valueA_toInt, ← valueB_toInt, BitVec.ofInt_toInt,
    BitVec.ofInt_toInt]

theorem quot23_sumOf (a : OperandA) (b : OperandB) (s : State) :
    quot23 (sumOf a b s) = truncatedSum a b s := by
  rw [quot23, sumOf_toInt, truncatedSum]

/-- A clip is saturation to its bits (R184 to R187). -/
theorem clip48_eq_ofInt (win : Clp32Window) (c : Clip) (x : Acc) :
    clip48 win c x = BitVec.ofInt 48 (satInt (c.bits win) (quot23 x)) := by
  cases c with
  | none => exact reduce48_toInt x ▸ BitVec.ofInt_toInt.symm
  | clp32 => rfl
  | clp28 =>
    obtain ⟨hlow, hhigh⟩ := satInt_bounds 28 (quot23 x)
    exact signExtend_ofInt (by decide) (by decide) hlow hhigh

theorem clipMc_eq_ofInt (win : Clp32Window) (c : Clip) (x : Acc) :
    clipMc win c x = BitVec.ofInt 28 (satInt (c.bits win) (quot23 x)) := by
  rw [clipMc, clip48_eq_ofInt, setWidth_ofInt (by decide)]

theorem doValue_eq_ofInt (win : Clp32Window) (x : Acc) :
    doValue win x = BitVec.ofInt 32 (satInt (32 + win.lsb) (quot23 x) / 2 ^ win.lsb) := by
  apply BitVec.eq_of_toNat_eq
  rw [doValue, clip32, BitVec.extractLsb'_toNat, Nat.shiftRight_eq_div_pow, BitVec.toNat_ofInt,
    BitVec.toNat_ofInt]
  generalize satInt (32 + win.lsb) (quot23 x) = q
  cases win <;> simp only [Clp32Window.lsb] <;> omega

/-! ### An ADD by itself and in its word -/

/-- Operation `i` is ADD(a,b,c,d) (R188). -/
structure IsAdd (i : Instr) (a : OperandA) (b : OperandB) (c : Clip) (d : Dest) : Prop where
  exec_eq : ∀ u, exec i u = addTo a b c d u
  writesDlyi_eq : writesDlyi i = decide (d = .dlyi)

/-- The write of an ADD of the registers of `s`, in integers (R184 to R188, R197). -/
def writeInteger (c : Clip) (d : Dest) (a : OperandA) (b : OperandB) (s : State) :
    State → State :=
  let q := saturatedSum (c.bits s.cfg.clp32) a b s
  match d with
  | .acc => setAcc (BitVec.ofInt 76 (intA a s + intB b s))
  | .b => setB (BitVec.ofInt 48 q)
  | .l => setL (BitVec.ofInt 48 q)
  | .md => setMd (BitVec.ofInt 48 q)
  | .mc => setMc (BitVec.ofInt 28 q)
  | .dlyi => setDlyi (BitVec.ofInt 48 q)
  | .out k =>
    let lsb := s.cfg.clp32.lsb
    setOut k (BitVec.ofInt 32 (saturatedSum (32 + lsb) a b s / 2 ^ lsb))
  | .mdb => fun u => setAcc 0 (setB (BitVec.ofInt 48 q) (setMd (BitVec.ofInt 48 q) u))

section

variable {i : Instr} {a : OperandA} {b : OperandB} {c : Clip} {d : Dest}

/-- Whatever is scheduled before it, an ADD reads the registers of the state before the word. -/
theorem IsAdd.exec_schedOnly {s u : State} (h : IsAdd i a b c d) (hu : SchedOnly s u) :
    exec i u = .next (writeInteger c d a b s u) := by
  obtain ⟨k, rfl⟩ := hu
  refine (h.exec_eq _).trans (congrArg Host.Outcome.next ?_)
  change writeSum c d (sumOf a b s) _ = _
  cases d <;>
    simp only [writeSum, writeInteger, clip48_eq_ofInt, clipMc_eq_ofInt, doValue_eq_ofInt,
      quot23_sumOf, ← sumOf_eq_ofInt, saturatedSum]

theorem IsAdd.exec_next (h : IsAdd i a b c d) (s : State) :
    exec i s = .next (writeInteger c d a b s s) :=
  h.exec_schedOnly (.refl s)

/-- What an ADD schedules when nothing else is scheduled. -/
def addSched (c : Clip) (d : Dest) (a : OperandA) (b : OperandB) (s : State) : Sched :=
  (writeInteger c d a b s { s with sched := Sched.empty }).sched

theorem IsAdd.exec_of_empty (h : IsAdd i a b c d) (s : State) :
    exec i { s with sched := Sched.empty } = .next { s with sched := addSched c d a b s } := by
  rw [h.exec_schedOnly ⟨Sched.empty, rfl⟩]
  cases d <;> rfl

theorem addSched_conflict (c : Clip) (d : Dest) (a : OperandA) (b : OperandB) (s : State) :
    (addSched c d a b s).conflict = none := by
  cases d <;> rfl

theorem addSched_dlyi {s : State} (hd : d ≠ .dlyi) :
    (addSched c d a b s).dlyi = none := by
  cases d with
  | dlyi => exact absurd rfl hd
  | _ => rfl

theorem wordFault_wordAlu2 {s : State} (hp : s.pipe = none)
    (hi : writesDlyi i = false) : wordFault (wordAlu2 i) s = none :=
  wordFault_of_form hp rfl rfl (by simp [delayPointerMissing, wordAlu2, hi])

/-- A word with only an ALU2 operation that does not write DLYI completes with what that operation
schedules. -/
theorem execWord_wordAlu2 {s : State} {k : Sched} (hp : s.pipe = none)
    (hi : writesDlyi i = false)
    (hexec : exec i (issue (wordAlu2 i) s) = .next { s with sched := k })
    (hc : k.conflict = none) (hd : k.dlyi = none) :
    execWord (wordAlu2 i) s = .next (tickedWith k s) :=
  execWord_ticked hp (wordFault_wordAlu2 hp hi) rfl (execFields_of rfl hexec rfl rfl rfl) hc hd

/-- An ADD by itself, and alone in its word. -/
theorem IsAdd.completes (h : IsAdd i a b c d) (hd : d ≠ .dlyi) (s : State) :
    exec i s = .next (writeInteger c d a b s s) ∧
      (s.pipe = none →
        execWord (wordAlu2 i) s = .next (tickedWith (addSched c d a b s) s)) :=
  ⟨h.exec_next s, fun hp => execWord_wordAlu2 hp (by simp [h.writesDlyi_eq, hd]) (h.exec_of_empty s)
    (addSched_conflict c d a b s) (addSched_dlyi hd)⟩

end

/-- Settles O23: clip NONE saturates to 48 bits, in each of the 18 forms. -/
theorem addToFirstPipe : Obligations.AddToFirstPipe := by
  intro s
  refine ⟨fun p hp => ?_, fun p hp => ?_, fun p hp => ?_⟩
  · have h : IsAdd p.1 p.2.1 p.2.2 .none .b := by
      fin_cases hp <;> exact ⟨fun _ => rfl, rfl⟩
    exact h.completes nofun s
  · have h : IsAdd p.1 p.2.1 p.2.2 .none .l := by
      fin_cases hp <;> exact ⟨fun _ => rfl, rfl⟩
    exact h.completes nofun s
  · have h : IsAdd p.1 p.2.1 p.2.2 .none .md := by
      fin_cases hp <;> exact ⟨fun _ => rfl, rfl⟩
    exact h.completes nofun s

/-- Settles O24: the low 28 bits of a 48-bit integer are the 28-bit integer. -/
theorem addToMc : Obligations.AddToMc := by
  intro s p hp
  have h : IsAdd p.1 p.2.1 p.2.2 .none .mc := by
    fin_cases hp <;> exact ⟨fun _ => rfl, rfl⟩
  exact h.completes nofun s

/-- Settles O25: ACC takes the sum before any clip. -/
theorem addToAcc : Obligations.AddToAcc := by
  intro s p hp
  have h : IsAdd p.1 p.2.1 p.2.2 .none .acc := by
    fin_cases hp <;> exact ⟨fun _ => rfl, rfl⟩
  exact h.completes nofun s

/-- The clock of a word that only hands a value to the delay memory (R280, R316): DLYO moves only
when DLY_AGE reaches 13, and the write sets it to 1. -/
theorem settle_eq_ticked_of_dlyi {s : State} (hp : s.pipe = none) (v : Data) (ptr : Addr) :
    settle { s with sched := { Sched.empty with dlyi := some v, dlyPtr := some ptr } } =
      { ticked s with
        dlyi := v, dlyPtr := ptr, delayLog := (ptr, v) :: s.delayLog, dlyAge := some 1,
        dlyo := s.dlyo } := by
  simp [settle, ticked, hp, Sched.empty, nextPc, nextPipe, nextRun, nextVol, nextDlyAge,
    nextDelayLog, nextDlyo, dlyLatency, nextData, nextCoef, nextDreg0]

/-- Settles O26: the write of the ADD lands with the pointer of the word's DLYPTR. -/
theorem addToDlyi : Obligations.AddToDlyi := by
  intro s ptr p hp
  have h : IsAdd p.1 p.2.1 p.2.2 .none .dlyi := by
    fin_cases hp <;> exact ⟨fun _ => rfl, rfl⟩
  refine ⟨h.exec_next s, fun hpipe => ?_⟩
  have hfault : wordFault ⟨.nopAlu1, p.1, .nopMop1, .nopMop2, .dlyptr ptr⟩ s = none :=
    wordFault_of_form hpipe rfl rfl (Bool.and_false _)
  exact (execWord_of_sched hfault rfl (execFields_of rfl (h.exec_of_empty s) rfl rfl rfl) rfl).trans
    (congrArg _ (settle_eq_ticked_of_dlyi hpipe _ ptr))

/-- Settles O27: the k-th form of each of the four lists writes DO(k+1). -/
theorem addToOutputs : Obligations.AddToOutputs := by
  intro s p hp lsb v k i hi
  have h : IsAdd i p.2.1 p.2.2 .clp32 (.out k) := by
    fin_cases hp <;> fin_cases k <;> cases hi <;> exact ⟨fun _ => rfl, rfl⟩
  exact h.completes nofun s

/-- Settles O28: MDB is one destination of three writes. -/
theorem addToMdb : Obligations.AddToMdb := fun s =>
  have h : IsAdd .addAccMrNoneMdb .acc .mr .none .mdb := ⟨fun _ => rfl, rfl⟩
  h.completes nofun s

/-- Settles O29: CLP28 saturates to 28 bits, which MC holds whole. -/
theorem addClp28 : Obligations.AddClp28 := by
  intro s
  have mc : IsAdd .addAccZeroClp28Mc .acc .zero .clp28 .mc := ⟨fun _ => rfl, rfl⟩
  have b : IsAdd .addAccZeroClp28B .acc .zero .clp28 .b := ⟨fun _ => rfl, rfl⟩
  have l : IsAdd .addAccZeroClp28L .acc .zero .clp28 .l := ⟨fun _ => rfl, rfl⟩
  exact ⟨mc.exec_next s, b.exec_next s, l.exec_next s, fun hp =>
    ⟨(mc.completes nofun s).2 hp, (b.completes nofun s).2 hp, (l.completes nofun s).2 hp⟩⟩

/-! ### Sums of BR -/

/-- A sum of fewer than 2^52 whole units of 2^-23 does not wrap. -/
theorem wrappedSum_of_units {a : OperandA} {b : OperandB} {s : State} {q : Int}
    (hq : intA a s + intB b s = q * 2 ^ 23) (hlow : -2 ^ 52 ≤ q) (hhigh : q < 2 ^ 52) :
    wrappedSum a b s = q * 2 ^ 23 := by
  rw [wrappedSum, hq]
  apply Int.bmod_eq_of_le <;> norm_num at * <;> omega

/-- Rounding leaves whole units as they are. -/
theorem saturatedSum_of_units {a : OperandA} {b : OperandB} {s : State} {q : Int}
    (hq : wrappedSum a b s = q * 2 ^ 23) (n : Nat) : saturatedSum n a b s = satInt n q := by
  rw [saturatedSum, truncatedSum, hq, Int.mul_tdiv_cancel _ (by decide)]

theorem satInt_of_mem {n : Nat} {q : Int} (hlow : -2 ^ (n - 1) ≤ q) (hhigh : q < 2 ^ (n - 1)) :
    satInt n q = q := by
  simp only [satInt]
  omega

theorem wrappedSum_br_zero (s : State) : wrappedSum .br .zero s = s.br.toInt * 2 ^ 23 := by
  have hlow := BitVec.le_toInt s.br
  have hhigh := BitVec.toInt_lt (x := s.br)
  exact wrappedSum_of_units (Int.add_zero _) (by omega) (by omega)

theorem wrappedSum_br_lr (s : State) :
    wrappedSum .br .lr s = (s.br.toInt + s.lr.toInt) * 2 ^ 23 := by
  have hbr := BitVec.le_toInt s.br
  have hbr' := BitVec.toInt_lt (x := s.br)
  have hlr := BitVec.le_toInt s.lr
  have hlr' := BitVec.toInt_lt (x := s.lr)
  exact wrappedSum_of_units (Int.add_mul _ _ _).symm (by omega) (by omega)

/-- Settles O30: BR alone is a sum of whole units, and 48 bits hold it. -/
theorem brZeroMoves : Obligations.BrZeroMoves := by
  intro s
  have sat : ∀ n, saturatedSum n .br .zero s = satInt n s.br.toInt :=
    saturatedSum_of_units (wrappedSum_br_zero s)
  have fits : satInt 48 s.br.toInt = s.br.toInt :=
    satInt_of_mem (BitVec.le_toInt s.br) BitVec.toInt_lt
  have word : BitVec.ofInt 48 (saturatedSum 48 .br .zero s) = s.br := by
    rw [sat, fits, BitVec.ofInt_toInt]
  have low : BitVec.ofInt 28 (saturatedSum 48 .br .zero s) = s.br.setWidth 28 := by
    rw [← setWidth_ofInt (by decide : 28 ≤ 48), word]
  have hb : IsAdd .addBrZeroNoneB .br .zero .none .b := ⟨fun _ => rfl, rfl⟩
  have hl : IsAdd .addBrZeroNoneL .br .zero .none .l := ⟨fun _ => rfl, rfl⟩
  have hmd : IsAdd .addBrZeroNoneMd .br .zero .none .md := ⟨fun _ => rfl, rfl⟩
  have hmc : IsAdd .addBrZeroNoneMc .br .zero .none .mc := ⟨fun _ => rfl, rfl⟩
  have hclip : IsAdd .addBrZeroClp32B .br .zero .clp32 .b := ⟨fun _ => rfl, rfl⟩
  refine ⟨?_, ?_, ?_, ?_, ?_⟩
  · simpa only [writeInteger, Clip.bits, word] using hb.exec_next s
  · simpa only [writeInteger, Clip.bits, word] using hl.exec_next s
  · simpa only [writeInteger, Clip.bits, word] using hmd.exec_next s
  · simpa only [writeInteger, Clip.bits, low] using hmc.exec_next s
  · rw [← sat]
    exact hclip.completes nofun s

/-- Settles O31: BR + LR is a sum of whole units. -/
theorem brLrSaturatingAdd : Obligations.BrLrSaturatingAdd := by
  intro s
  have hsum := wrappedSum_br_lr s
  have hb : IsAdd .addBrLrNoneB .br .lr .none .b := ⟨fun _ => rfl, rfl⟩
  have hl : IsAdd .addBrLrNoneL .br .lr .none .l := ⟨fun _ => rfl, rfl⟩
  have hmd : IsAdd .addBrLrNoneMd .br .lr .none .md := ⟨fun _ => rfl, rfl⟩
  have hdlyi : IsAdd .addBrLrNoneDlyi .br .lr .none .dlyi := ⟨fun _ => rfl, rfl⟩
  have hmc : IsAdd .addBrLrNoneMc .br .lr .none .mc := ⟨fun _ => rfl, rfl⟩
  simp only [setWidth_ofInt (by decide : 28 ≤ 48), ← saturatedSum_of_units hsum]
  exact ⟨hsum, hb.exec_next s, hl.exec_next s, hmd.exec_next s, hdlyi.exec_next s,
    hmc.exec_next s⟩

/-! ### COMP -/

/-- Settles O33: the flag is CompFn of the operands as the adder sees them, which is the six rules
of the integers they stand for. -/
theorem compCompletes : Obligations.CompCompletes := by
  intro s p hp
  obtain ⟨hexec, hdlyi⟩ : (∀ u, exec p.1 u = compare p.2.1 p.2.2 u) ∧ writesDlyi p.1 = false := by
    fin_cases hp <;> exact ⟨fun _ => rfl, rfl⟩
  rw [← valueA_toInt, ← valueB_toInt, ← compFn_eq_sixRules]
  exact ⟨hexec s, fun hpipe => execWord_wordAlu2
    (k := { Sched.empty with pend := some (compFn (valueA p.2.1 s) (valueB p.2.2 s)) })
    hpipe hdlyi (hexec _) rfl rfl⟩

end Sys2Proof.Machine

/-! Proofs of the statements of 43_mop1.md: the conditional loads, taken (O36) and skipped (O37),
and the bus conflict (O50). -/

namespace Sys2Proof.Machine

/-! ### Conditional loads -/

/-- Settles O36: under its condition a conditional load is the load, in its word too. -/
theorem conditionalLoadsTaken : Obligations.ConditionalLoadsTaken := by
  intro s a v h
  have hread := memReadData_loadable h
  have taken : ∀ {cond}, cond = true → ∀ dest,
      loadIf cond (loadData a dest) s = .next (dest v s) :=
    fun hc _ => (loadIf_of_true _ s hc).trans (loadData_of_ok hread)
  refine ⟨fun hset => ⟨taken hset setB, taken hset setL, taken hset setMd⟩, fun hclear => ?_,
    fun hp => ?_⟩
  · have hclear := condClear_iff.mpr hclear
    exact ⟨taken hclear setB, taken hclear setL, taken hclear setMd⟩
  · have word : ∀ p ∈ dataLoads s.acpb a, execWord (wordMop1 p.1) s = .next (p.2 v (ticked s)) :=
      fun _ => execWord_dataLoad hp hread
    simp only [dataLoads, List.forall_mem_cons] at word
    obtain ⟨-, -, -, -, -, hmd, hb, hl, -⟩ := word
    exact ⟨hb, hl, hmd⟩

theorem loadIf_of_false {cond : Bool} (load : State → Result) (s : State) (h : cond = false) :
    loadIf cond load s = .next s := by
  simp [loadIf, h]

/-- Under the flag `flag` the operation reads no memory and schedules nothing. -/
structure Skips (flag : Bool) (i : Instr) : Prop where
  reads_no_data : mop1Reads flag i = none
  reads_no_coef : mop2Reads flag i = none
  exec_next : ∀ s : State, s.acpb = flag → exec i s = .next s

/-- A conditional load that the checks of the word do not count as a read is skipped. -/
theorem skips_of_loadIf {flag : Bool} {cond : Bool → Bool} {load : State → Result} {i : Instr}
    (hdata : mop1Reads flag i = none) (hcoef : mop2Reads flag i = none)
    (hexec : ∀ s, exec i s = loadIf (cond s.acpb) load s) (hcond : cond flag = false) :
    Skips flag i :=
  ⟨hdata, hcoef, fun s hs => (hexec s).trans (loadIf_of_false load s (hs ▸ hcond))⟩

/-- LNC under A_CP_B = 1 and LDC under A_CP_B = 0 do nothing (R237). -/
theorem skips_of_mem {flag : Bool} {a : Addr} {i : Instr}
    (hi : i ∈ (if flag then [.lncDataB a, .lncDataL a, .lncDataMd a, .lncCoefMc a]
      else [.ldcDataB a, .ldcDataL a, .ldcDataMd a, .ldcCoefMc a] : List Instr)) :
    Skips flag i := by
  cases flag
  case true =>
    simp only [if_true, List.mem_cons, List.not_mem_nil, or_false] at hi
    obtain rfl | rfl | rfl | rfl := hi <;>
      exact skips_of_loadIf (cond := condClear) rfl rfl (fun _ => rfl) rfl
  case false =>
    simp only [Bool.false_eq_true, if_false, List.mem_cons, List.not_mem_nil, or_false] at hi
    obtain rfl | rfl | rfl | rfl := hi <;>
      exact skips_of_loadIf (cond := condSet) rfl rfl (fun _ => rfl) rfl

/-- A word whose only operation is skipped does nothing. -/
theorem Skips.execWord_wordMop1 {i : Instr} {s : State} (h : Skips s.acpb i)
    (hp : s.pipe = none) : execWord (wordMop1 i) s = .next (ticked s) := by
  have hu : unwrittenFault (wordMop1 i) s = none :=
    unwrittenFault_of_filters (by rw [wordMop1, h.reads_no_data]; rfl) rfl
  exact Machine.execWord_wordMop1 (k := Sched.empty) hp hu (h.exec_next _ rfl) rfl rfl

theorem Skips.execWord_wordMop2 {i : Instr} {s : State} (h : Skips s.acpb i)
    (hp : s.pipe = none) : execWord (wordMop2 i) s = .next (ticked s) := by
  have hu : unwrittenFault (wordMop2 i) s = none :=
    unwrittenFault_of_filters rfl (by rw [wordMop2, h.reads_no_coef]; rfl)
  exact Machine.execWord_wordMop2 (k := Sched.empty) hp hu (h.exec_next _ rfl) rfl rfl

/-- Settles O37: the check for unwritten words sees no read, and the operation schedules nothing. -/
theorem conditionalLoadsSkipped : Obligations.ConditionalLoadsSkipped := by
  intro s a i hi
  have hskips := skips_of_mem hi
  refine ⟨hskips.exec_next s rfl, fun hp => ?_⟩
  split
  · exact hskips.execWord_wordMop1 hp
  · exact hskips.execWord_wordMop2 hp

/-! ### What an operation can fault with -/

/-- The faults that the meaning of an operation can raise (60_exceptions.md R306). The others come
from the fetch, the checks of the whole word, the end of the clock or the frame alone. -/
def Fault.ofOperation : Fault → Bool
  | .pcOpMalformed _ | .pcOutOfRange _ | .addressOutOfRange _ _ _ | .loadAfterStore _ _ _
  | .unwrittenRead _ _ | .delayTooEarly _ _ => true
  | _ => false

theorem memReadData_error_ofOperation {a : Addr} {s : State} {f : Fault}
    (h : memReadData a s = .error f) : f.ofOperation = true := by
  unfold memReadData at h
  repeat' split at h
  all_goals cases h
  all_goals rfl

theorem memReadCoef_error_ofOperation {a : Addr} {s : State} {f : Fault}
    (h : memReadCoef a s = .error f) : f.ofOperation = true := by
  unfold memReadCoef at h
  repeat' split at h
  all_goals cases h
  all_goals rfl

/-- A load faults only where its read does. -/
theorem loadData_eq_fault_iff {a : Addr} {dest : Data → State → State} {s : State} {f : Fault} :
    loadData a dest s = .fault f ↔ memReadData a s = .error f := by
  unfold loadData
  split <;> simp_all

theorem loadCoef_eq_fault_iff {a : Addr} {dest : Coef → State → State} {s : State} {f : Fault} :
    loadCoef a dest s = .fault f ↔ memReadCoef a s = .error f := by
  unfold loadCoef
  split <;> simp_all

theorem loadIf_eq_fault_iff {cond : Bool} {load : State → Result} {s : State} {f : Fault} :
    loadIf cond load s = .fault f ↔ cond = true ∧ load s = .fault f := by
  cases cond <;> simp [loadIf]

theorem storeData_fault_ofOperation {a : Addr} {v : Data} {s : State} {f : Fault}
    (h : storeData a v s = .fault f) : f.ofOperation = true := by
  unfold storeData at h
  repeat' split at h
  all_goals cases h
  all_goals rfl

theorem storeCoef_fault_ofOperation {a : Addr} {v : Data} {s : State} {f : Fault}
    (h : storeCoef a v s = .fault f) : f.ofOperation = true := by
  unfold storeCoef at h
  split at h <;> cases h
  rfl

theorem branchIf_fault_ofOperation {taken : Bool} {a : Addr} {s : State} {f : Fault}
    (h : branchIf taken a s = .fault f) : f.ofOperation = true := by
  unfold branchIf at h
  repeat' split at h
  all_goals cases h
  all_goals rfl

/-- Of the operations only the PC operations, the loads and the stores can fault. -/
theorem exec_fault_ofOperation {i : Instr} {s : State} {f : Fault} (h : exec i s = .fault f) :
    f.ofOperation = true := by
  have completes : ∀ {u : State}, Host.Outcome.next (φ := Fault) (ρ := Refusal) u = .fault f →
      f.ofOperation = true := nofun
  have loadOfData : ∀ {a dest}, loadData a dest s = .fault f → f.ofOperation = true :=
    fun h => memReadData_error_ofOperation (loadData_eq_fault_iff.mp h)
  have loadOfCoef : ∀ {a dest}, loadCoef a dest s = .fault f → f.ofOperation = true :=
    fun h => memReadCoef_error_ofOperation (loadCoef_eq_fault_iff.mp h)
  cases i <;> first
    | exact completes h
    | exact branchIf_fault_ofOperation h
    | exact loadOfData h
    | exact loadOfData (loadIf_eq_fault_iff.mp h).2
    | exact loadOfCoef h
    | exact loadOfCoef (loadIf_eq_fault_iff.mp h).2
    | exact storeData_fault_ofOperation h
    | exact storeCoef_fault_ofOperation h
    | (simp only [exec, execStDlyoData] at h
       split at h
       · exact storeData_fault_ofOperation h
       · cases h; rfl)

/-! ### What a word can fault with -/

theorem andThen_fault_iff {r : Result} {g : State → Result} {f : Fault} :
    andThen r g = .fault f ↔ r = .fault f ∨ ∃ s, r = .next s ∧ g s = .fault f := by
  cases r <;> simp [andThen]

theorem execFields_fault_ofOperation {w : InsnWord} {s : State} {f : Fault}
    (h : execFields w s = .fault f) : f.ofOperation = true := by
  simp only [execFields, andThen_fault_iff] at h
  obtain h | ⟨_, -, h | ⟨_, -, h | ⟨_, -, h | ⟨_, -, h⟩⟩⟩⟩ := h <;>
    exact exec_fault_ofOperation h

theorem unwrittenFault_ofOperation {w : InsnWord} {s : State} {f : Fault}
    (h : unwrittenFault w s = some f) : f.ofOperation = true := by
  unfold unwrittenFault at h
  repeat' split at h
  all_goals cases h
  all_goals rfl

theorem endOfClock_fault {s : State} {f : Fault} (h : endOfClock s = .fault f) :
    ∃ r, f = .writeConflict r (siteOf s) := by
  unfold endOfClock at h
  split at h <;> cases h
  exact ⟨_, rfl⟩

/-- Where the fault of a word comes from: the checks of the whole word, one of its operations, or
two fields that write one register. -/
theorem execWord_fault {w : InsnWord} {s : State} {f : Fault} (h : execWord w s = .fault f) :
    wordFault w s = some f ∨ f.ofOperation = true ∨ ∃ r x, f = .writeConflict r x := by
  unfold execWord at h
  split at h
  · rename_i hword
    cases h
    exact .inl hword
  · split at h
    · rename_i hread
      cases h
      exact .inr (.inl (unwrittenFault_ofOperation hread))
    · obtain h | ⟨u, -, h⟩ := andThen_fault_iff.mp h
      · exact .inr (.inl (execFields_fault_ofOperation h))
      · obtain ⟨r, hr⟩ := endOfClock_fault h
        exact .inr (.inr ⟨r, _, hr⟩)

/-! ### The bus conflict -/

/-- The pairing that R238 forbids. -/
theorem busConflict_iff {w : InsnWord} :
    busConflict w = true ↔ (∃ a, w.mop1 = .ldDataMc a) ∧ ∃ c, w.mop2 = .ldCoefL c := by
  unfold busConflict
  split
  · rename_i a c h1 h2
    exact iff_of_true rfl ⟨⟨a, h1⟩, c, h2⟩
  · rename_i hother
    refine iff_of_false Bool.false_ne_true ?_
    rintro ⟨⟨a, h1⟩, c, h2⟩
    exact hother a c h1 h2

/-- A word without a PC operation and without a PCADDR is not malformed (R161). -/
theorem pcFormBad_of_no_pcOp {w : InsnWord} (h1 : isPcOp w.alu1 = false)
    (h2 : isPcaddr w.mop3 = false) : pcFormBad w = false := by
  simp [pcFormBad, h1, h2]

theorem execWord_of_busConflict {w : InsnWord} {s : State} (hp : s.pipe = none)
    (hform : pcFormBad w = false) (h : busConflict w = true) :
    execWord w s = .fault (.busConflict (siteOf s)) := by
  simp [execWord, wordFault, hp, hform, h]

theorem busConflict_of_wordFault {w : InsnWord} {s : State} {x : Site}
    (h : wordFault w s = some (.busConflict x)) : busConflict w = true := by
  unfold wordFault at h
  repeat' split at h
  all_goals cases h
  assumption

/-- Settles O50: the check of the whole word is the only place that raises the fault. -/
theorem busConflictFaults : Obligations.BusConflict := by
  intro s w
  refine ⟨fun hp hpc haddr hmc hl => ?_, fun x h => ?_⟩
  · exact execWord_of_busConflict hp (pcFormBad_of_no_pcOp hpc haddr)
      (busConflict_iff.mpr ⟨hmc, hl⟩)
  · obtain hword | hop | ⟨r, y, hr⟩ := execWord_fault h
    · exact busConflict_iff.mp (busConflict_of_wordFault hword)
    · cases hop
    · cases hr

end Sys2Proof.Machine

/-! Proof of the statement of 44_mop2.md: the loads from COEF RAM (O39). -/

namespace Sys2Proof.Machine

/-- The COEF word in L is the same signed integer (D14). -/
theorem dataOfCoef_eq_ofInt (c : Coef) : dataOfCoef c = BitVec.ofInt 48 c.toInt := rfl

/-- A load of a COEF word that may be loaded schedules that word for its destination. -/
theorem loadCoef_of_loadable {a : Addr} {c : Coef} {s : State} (h : CoefLoadable a c s)
    (dest : Coef → State → State) : loadCoef a dest s = .next (dest c s) :=
  loadCoef_of_ok (memReadCoef_ok_iff.mpr h)

/-- Settles O39: under its condition a conditional load is the load of MC, and the sign extension
into L keeps the integer. -/
theorem loadsFromCoef : Obligations.LoadsFromCoef := by
  intro s a c h
  have toMc := loadCoef_of_loadable h setMc
  have toL := loadCoef_of_loadable h fun v => setL (dataOfCoef v)
  have taken : ∀ {cond}, cond = true → loadIf cond (loadCoef a setMc) s = .next (setMc c s) :=
    fun hc => (loadIf_of_true _ s hc).trans toMc
  rw [dataOfCoef_eq_ofInt] at toL
  refine ⟨toMc, toL, fun hset => taken (condSet_iff.mpr hset),
    fun hclear => taken (condClear_iff.mpr hclear), fun hp => ?_⟩
  have word : ∀ p ∈ coefLoads s.acpb a, execWord (wordMop2 p.1) s = .next (p.2 c (ticked s)) :=
    fun _ => execWord_coefLoad hp h
  simp only [coefLoads, List.forall_mem_cons] at word
  obtain ⟨hmc, hl, hcond, -⟩ := word
  exact ⟨hmc, hl, hcond⟩

end Sys2Proof.Machine

/-! Proof of the statement of 45_mop3.md: the missing delay pointer (O51). -/

namespace Sys2Proof.Machine

/-- The ADD operations with destination DLYI (R283). -/
theorem writesDlyi_iff {i : Instr} : writesDlyi i = true ↔
    i ∈ ([.addBrMrNoneDlyi, .addBrLrNoneDlyi, .addAccMrNoneDlyi, .addAccLrNoneDlyi] :
      List Instr) := by
  cases i <;> simp [writesDlyi]

theorem isDlyptr_eq_false {i : Instr} (h : ∀ ptr, i ≠ .dlyptr ptr) : isDlyptr i = false :=
  Bool.eq_false_iff.mpr fun hd => (eq_dlyptr_of_isDlyptr hd).elim h

/-- The missing pointer is the last check of the whole word (R306). -/
theorem execWord_of_delayPointerMissing {w : InsnWord} {s : State} (hp : s.pipe = none)
    (hform : pcFormBad w = false) (hbus : busConflict w = false)
    (h : delayPointerMissing w = true) :
    execWord w s = .fault (.delayPointerMissing (siteOf s)) := by
  simp [execWord, wordFault, hp, hform, hbus, h]

/-- Settles O51: the two hypotheses on ALU2 and MOP3 are the two parts of the check. -/
theorem delayPointerMissingFaults : Obligations.DelayPointerMissing := by
  intro s w hp hform hbus hwrites hptr
  have hmissing : delayPointerMissing w = true := by
    simp only [delayPointerMissing, writesDlyi_iff.mpr hwrites, isDlyptr_eq_false hptr,
      Bool.not_false, Bool.and_self]
  exact execWord_of_delayPointerMissing hp hform hbus hmissing

end Sys2Proof.Machine

/-! Proof of the statement of 60_exceptions.md: the frame boundary (O5). -/

namespace Sys2Proof.Machine

/-- A program that runs, or whose pipe has not drained, is an overrun at a frame boundary (R304). -/
theorem step_frameOverrun {s : State} (hb : s.cfg.cyclesPerFrame ≤ s.frameClock)
    (h : s.run = .running ∨ s.pipe ≠ none) : step s = .fault (.frameOverrun (siteOf s)) := by
  have not_over : ¬ (s.run = .stopped ∧ s.pipe = none) := by
    rintro ⟨hr, hp⟩
    obtain hrunning | hpipe := h
    · cases hr.symm.trans hrunning
    · exact hpipe hp
  simp only [step, advance, frameBoundary, if_pos hb, if_neg not_over]

/-- Settles O5: the step at the boundary is `frameRestart` or the overrun. The restarted state shows
first the fields that R303 sets, then those it keeps. -/
theorem frameBoundaryRestartsOrOverruns : Obligations.FrameBoundary := by
  intro s hb
  refine ⟨fun hr hp => ⟨frameRestart s, step_frameBoundary hb hr hp, ?_⟩, step_frameOverrun hb⟩
  refine ⟨rfl, rfl, rfl, rfl, rfl, rfl, rfl, frameRestart_di s, ?_⟩
  exact ⟨rfl, rfl, rfl, rfl, rfl, rfl, rfl, rfl, rfl, rfl, rfl, rfl⟩

end Sys2Proof.Machine
